-- ==== Sys2Proof/Word.lean ====
section
/-! DEFINITION. The widths of the block's data: bytes, the frame window, the output lines
(spec/00_scope.md R8, R10). -/

namespace Sys2Proof

/-- A byte is 8 bits (R10). -/
abbrev Byte := BitVec 8

/-- The frame window: `L` = 10 bytes, index 0 the first received (R8, R42). -/
abbrev Frame := Vector Byte 10

/-- The output lines: `N_LINES` = 34 bits, 1 = asserted (R8, R26). -/
abbrev LineLevels := BitVec 34

/-- An 8-bit opcode (R62). -/
abbrev Opcode := BitVec 8

/-- A parsed value, 0..511 (R87, R30). -/
abbrev Value := BitVec 9

/-- A config sub-opcode, bits 5..0 of a CFG opcode (R65). -/
abbrev SubOp := BitVec 6

end Sys2Proof
end

