-- ==== Sys2Proof/Config.lean ====
section
/-! DEFINITION. The open parameters of spec/00_scope.md R9: CFG_RECOGNISED, CFG_ACTION, LINE_ADDR,
INIT_LINES. They are data of a run (R34), so a statement about every state is a statement about every
value of them. -/

namespace Sys2Proof

/-- The action of a recognised config sub-opcode (R9: `ClearAll` or `NoWrite`). -/
inductive CfgAction where
  | clearAll
  | noWrite
deriving DecidableEq, Repr

/-- A physical address in the discrete-output module (R43). -/
structure LineAddr where
  slot : Nat
  channel : Nat
deriving DecidableEq, Repr

/-- R9's constraint on LINE_ADDR: injective, and no line at channel 0. -/
def lineAddrOk (a : Vector LineAddr 34) : Bool :=
  decide (a.toList.Nodup) && a.toList.all (fun x => decide (1 ≤ x.channel))

/-- The open parameters (R9).
`cfgExtra` lists the recognised sub-opcodes OTHER than 0 with their actions, the first entry of a
sub-opcode counting: CFG_RECOGNISED is 0 and its keys, CFG_ACTION is its values, and 0 is `ClearAll`
whatever the list holds, so R9's two constraints on them hold by construction. `addrOk` carries R9's constraint
on LINE_ADDR, so no Config, and no State, lacks it. -/
structure Config where
  cfgExtra : List (SubOp × CfgAction)
  lineAddr : Vector LineAddr 34
  addrOk : lineAddrOk lineAddr = true
  initLines : LineLevels
deriving DecidableEq, Repr

/-- `some (CFG_ACTION(sub))` when `sub ∈ CFG_RECOGNISED`, else `none` (R9, R103). -/
def Config.action (k : Config) (sub : SubOp) : Option CfgAction :=
  if sub = 0 then some .clearAll else k.cfgExtra.lookup sub

/-- `sub ∈ CFG_RECOGNISED` (R9). -/
def Config.recognised (k : Config) (sub : SubOp) : Bool :=
  (k.action sub).isSome

/-- The values of R9's vector column: only Sleep recognised, INIT_LINES = 0.
DESIGN CHOICE (log entry 4): the source gives no LINE_ADDR (91 N3); line `k` is slot 0, channel
`k + 1` here, a choice no statement rests on. -/
def Config.default : Config where
  cfgExtra := []
  lineAddr := Vector.ofFn (fun k => { slot := 0, channel := k.val + 1 })
  addrOk := by decide
  initLines := 0

end Sys2Proof
end

