-- ==== Sys2Proof/Syntax.lean ====
section
/-! DEFINITION. The commands of the block: one constructor per row of spec/opcode_table.json. -/

namespace Sys2Proof

/-- The two antenna groups (R8, R64): EMS is index 0, DFS index 1. -/
inductive AntennaGroup where
  | ems
  | dfs
deriving DecidableEq, Repr

/-- One constructor per row of the opcode table. A Selection has no operand (R130); the other rows
carry the bits their pattern leaves free. -/
inductive Instr where
  /-- `SEL EMS,1`, opcode 0xC0 (R131). -/
  | selEms1
  /-- `SEL EMS,2`, opcode 0xC1 (R132). -/
  | selEms2
  /-- `SEL EMS,3`, opcode 0xC2 (R133). -/
  | selEms3
  /-- `SEL EMS,4`, opcode 0xC3 (R134). -/
  | selEms4
  /-- `SEL EMS,5`, opcode 0xC4 (R135). -/
  | selEms5
  /-- `SEL EMS,6`, opcode 0xC5 (R136). -/
  | selEms6
  /-- `SEL EMS,7`, opcode 0xC6 (R137). -/
  | selEms7
  /-- `SEL EMS,8`, opcode 0xC7 (R138). -/
  | selEms8
  /-- `SEL EMS,9`, opcode 0xC8 (R139). -/
  | selEms9
  /-- `SEL EMS,10`, opcode 0xC9 (R140). -/
  | selEms10
  /-- `SEL EMS,11`, opcode 0xCA (R141). -/
  | selEms11
  /-- `SEL EMS,12`, opcode 0xCB (R142). -/
  | selEms12
  /-- `SEL EMS,13`, opcode 0xCC (R143). -/
  | selEms13
  /-- `SEL EMS,14`, opcode 0xCD (R144). -/
  | selEms14
  /-- `SEL EMS,15`, opcode 0xCE (R145). -/
  | selEms15
  /-- `SEL EMS,16`, opcode 0xCF (R146). -/
  | selEms16
  /-- `SEL DFS,1`, opcode 0xD0 (R147). -/
  | selDfs1
  /-- `SEL DFS,2`, opcode 0xD1 (R148). -/
  | selDfs2
  /-- `SEL DFS,3`, opcode 0xD2 (R149). -/
  | selDfs3
  /-- `SEL DFS,4`, opcode 0xD3 (R150). -/
  | selDfs4
  /-- `SEL DFS,5`, opcode 0xD4 (R151). -/
  | selDfs5
  /-- `SEL DFS,6`, opcode 0xD5 (R152). -/
  | selDfs6
  /-- `SEL DFS,7`, opcode 0xD6 (R153). -/
  | selDfs7
  /-- `SEL DFS,8`, opcode 0xD7 (R154). -/
  | selDfs8
  /-- `SEL DFS,9`, opcode 0xD8 (R155). -/
  | selDfs9
  /-- `SEL DFS,10`, opcode 0xD9 (R156). -/
  | selDfs10
  /-- `SEL DFS,11`, opcode 0xDA (R157). -/
  | selDfs11
  /-- `SEL DFS,12`, opcode 0xDB (R158). -/
  | selDfs12
  /-- `SEL DFS,13`, opcode 0xDC (R159). -/
  | selDfs13
  /-- `SEL DFS,14`, opcode 0xDD (R160). -/
  | selDfs14
  /-- `SEL DFS,15`, opcode 0xDE (R161). -/
  | selDfs15
  /-- `SEL DFS,16`, opcode 0xDF (R162). -/
  | selDfs16
  /-- `SLEEP`, opcode 0x80 (R170). -/
  | sleep
  /-- `CFG`, opcode 0x80 + `sub`, `sub` recognised and not 0 (R171). -/
  | cfg (sub : SubOp)
  /-- `CFG_UNKNOWN`, opcode 0x80 + `sub`, `sub` not recognised (R172). -/
  | cfgUnknown (sub : SubOp)
  /-- `RSV_GRP2`, opcode 0xE0 + `idx` (R173). -/
  | rsvGrp2 (idx : BitVec 4)
  /-- `RSV_GRP3`, opcode 0xF0 + `idx` (R174). -/
  | rsvGrp3 (idx : BitVec 4)
  /-- `NO_SENTINEL`, parsed value `v` in 0x00..0x7F (R175). -/
  | noSentinel (v : BitVec 7)
  /-- `OVER_WIDE`, parsed value 0x100 + `v`, `v` in 0x00..0xFF (R176). -/
  | overWide (v : BitVec 8)
deriving DecidableEq, Repr

end Sys2Proof
end

