-- ==== Sys2Proof/WellFormed.lean ====
section
/-! DEFINITION. Which terms of `Instr` are commands under given parameters: the `condition` column of
spec/opcode_table.json (R67, R171, R172). -/

namespace Sys2Proof

/-- `cfg sub` needs a recognised sub-opcode other than Sleep's, `cfgUnknown sub` one that is not
recognised; every other term is a command. -/
def Instr.wf (k : Config) : Instr → Bool
  | .cfg sub => sub != 0 && k.recognised sub
  | .cfgUnknown sub => !k.recognised sub
  | .noSentinel _ | .overWide _ | .rsvGrp2 _ | .rsvGrp3 _ | .sleep
  | .selEms1 | .selEms2 | .selEms3 | .selEms4 | .selEms5 | .selEms6 | .selEms7 | .selEms8
  | .selEms9 | .selEms10 | .selEms11 | .selEms12 | .selEms13 | .selEms14 | .selEms15 | .selEms16
  | .selDfs1 | .selDfs2 | .selDfs3 | .selDfs4 | .selDfs5 | .selDfs6 | .selDfs7 | .selDfs8
  | .selDfs9 | .selDfs10 | .selDfs11 | .selDfs12 | .selDfs13 | .selDfs14 | .selDfs15 | .selDfs16 => true

end Sys2Proof
end

