-- ==== Sys2Proof/Decode.lean ====
section
/-! DEFINITION. opcode_decoder: the frame check, the parse and the classification of a frame
(spec/40_opcode_decoder.md), the reading of the result as a command of `Instr`, and the encoder
(spec/30_encoding.md). -/

namespace Sys2Proof

/-! ## Character codes (R12) -/

/-- `'0'`. -/
def chr0 : Byte := 0x30
/-- `'1'`. -/
def chr1 : Byte := 0x31
/-- CR. -/
def chrCR : Byte := 0x0D
/-- LF. -/
def chrLF : Byte := 0x0A

/-- A terminator byte: CR or LF, each on its own (R83). -/
def isTerminator (x : Byte) : Bool := x == chrCR || x == chrLF

/-- A binary digit: 0x30 or 0x31 and no other byte (R12). -/
def isDigit (x : Byte) : Bool := x == chr0 || x == chr1

/-! ## The frame check (R82 to R85) -/

inductive FrameReason where
  | shortOrEmpty
  | termOutOfRange
deriving DecidableEq, Repr

inductive ParseReason where
  | nonBinary
  | bitWidth
deriving DecidableEq, Repr

/-- The least index of a terminator byte in the window, or none (R83). -/
def firstTerminator (b : Frame) : Option Nat := b.toList.findIdx? isTerminator

/-- FrameReader's contract: the terminator index of a full read whose token is not empty (R82, R84). -/
def checkFrame (n : Nat) (b : Frame) : Except FrameReason Nat :=
  if n < 10 then .error .shortOrEmpty
  else match firstTerminator b with
    | none => .error .termOutOfRange
    | some t => if t = 0 then .error .termOutOfRange else .ok t

/-- The terminator index, where the decode produced one (R25): a frame that passes the frame check. -/
def acceptedTerminator (n : Nat) (b : Frame) : Option Nat := (checkFrame n b).toOption

/-- The token: the bytes before the first terminator (R84). -/
def tokenOf (t : Nat) (b : Frame) : List Byte := b.toList.take t

/-! ## The parse (R86 to R89) -/

/-- The longest prefix made only of binary digits (R87). -/
def digitPrefix (tok : List Byte) : List Byte := tok.takeWhile isDigit

/-- Digits read base 2, most significant first (R87). -/
def digitsValue (ds : List Byte) : Nat := ds.foldl (fun acc d => 2 * acc + (d.toNat - 0x30)) 0

/-- The result of the decoder (R80). -/
inductive Raw where
  | frameErr (reason : FrameReason)
  | parseErr (reason : ParseReason) (v : Option Value)
  | selRaw (op : Opcode) (t : Nat)
  | cfgRaw (op : Opcode) (t : Nat)
deriving DecidableEq, Repr

/-- Bit width, sentinel and classification of a parsed value (R89, R90). -/
def classifyValue (v : Nat) (t : Nat) : Raw :=
  if v > 255 || !v.testBit 7 then .parseErr .bitWidth (some (BitVec.ofNat 9 v))
  else
    let op : Opcode := BitVec.ofNat 8 v
    if op.getLsbD 6 then .selRaw op t else .cfgRaw op t

/-- `Decode(n, b)` (R94): the checks in the order of R81, the first failing one decides. -/
def rawDecode (n : Nat) (b : Frame) : Raw :=
  match checkFrame n b with
  | .error reason => .frameErr reason
  | .ok t =>
    let tok := tokenOf t b
    match tok.head? with
    | none => .frameErr .termOutOfRange
    | some c =>
      if isDigit c then classifyValue (digitsValue (digitPrefix tok)) t
      else .parseErr .nonBinary none

/-- The parsed value a decoder result carries (R88): `v`, or the opcode. -/
def Raw.value : Raw → Option Value
  | .frameErr _ => none
  | .parseErr _ v => v
  | .selRaw op _ => some (op.setWidth 9)
  | .cfgRaw op _ => some (op.setWidth 9)

/-! ## From a decoder result to a command (R67) -/

/-- A frame that is no command, by the name of its outcome (R69, R181). -/
inductive DecodeError where
  | shortOrEmpty
  | termOutOfRange
  | nonBinary
deriving DecidableEq, Repr

inductive Decoded where
  | instr (i : Instr)
  | reject (e : DecodeError)
deriving DecidableEq, Repr

/-- The Selections of group EMS by chain index (R131 to R146). -/
def selEmsTable : Vector Instr 16 :=
  #v[.selEms1, .selEms2, .selEms3, .selEms4,
     .selEms5, .selEms6, .selEms7, .selEms8,
     .selEms9, .selEms10, .selEms11, .selEms12,
     .selEms13, .selEms14, .selEms15, .selEms16]

/-- The Selections of group DFS by chain index (R147 to R162). -/
def selDfsTable : Vector Instr 16 :=
  #v[.selDfs1, .selDfs2, .selDfs3, .selDfs4,
     .selDfs5, .selDfs6, .selDfs7, .selDfs8,
     .selDfs9, .selDfs10, .selDfs11, .selDfs12,
     .selDfs13, .selDfs14, .selDfs15, .selDfs16]

/-- The Selection of a group and a zero-based chain index: chain number `idx + 1` (R64). -/
def selInstr (g : AntennaGroup) (idx : Fin 16) : Instr :=
  match g with
  | .ems => selEmsTable[idx]
  | .dfs => selDfsTable[idx]

/-- Format SEL: `grp = op[5:4]`, `idx = op[3:0]` (R64, R67). -/
def selOf (op : Opcode) : Instr :=
  match op.getLsbD 5, op.getLsbD 4 with
  | false, false => selInstr .ems (op.setWidth 4).toFin
  | false, true => selInstr .dfs (op.setWidth 4).toFin
  | true, false => .rsvGrp2 (op.setWidth 4)
  | true, true => .rsvGrp3 (op.setWidth 4)

/-- Format CFG: `sub = op[5:0]` (R65, R67). -/
def cfgOf (k : Config) (op : Opcode) : Instr :=
  let sub : SubOp := op.setWidth 6
  if sub = 0 then .sleep
  else if k.recognised sub then .cfg sub
  else .cfgUnknown sub

/-- A value that fails the bit-width check (R175, R176). -/
def badValueOf (v : Value) : Instr :=
  if v.getLsbD 8 then .overWide (v.setWidth 8) else .noSentinel (v.setWidth 7)

/-- The command a frame holds under given parameters, or why it holds none. -/
def decode (k : Config) (n : Nat) (b : Frame) : Decoded :=
  match rawDecode n b with
  | .frameErr .shortOrEmpty => .reject .shortOrEmpty
  | .frameErr .termOutOfRange => .reject .termOutOfRange
  | .parseErr .nonBinary _ => .reject .nonBinary
  | .parseErr .bitWidth v => .instr (badValueOf (v.getD 0))
  | .selRaw op _ => .instr (selOf op)
  | .cfgRaw op _ => .instr (cfgOf k op)

/-! ## The encoder (R60, R71) -/

/-- The value a command's digits spell (R67, R71). -/
def Instr.value : Instr → Value
  | .selEms1 => 0xC0
  | .selEms2 => 0xC1
  | .selEms3 => 0xC2
  | .selEms4 => 0xC3
  | .selEms5 => 0xC4
  | .selEms6 => 0xC5
  | .selEms7 => 0xC6
  | .selEms8 => 0xC7
  | .selEms9 => 0xC8
  | .selEms10 => 0xC9
  | .selEms11 => 0xCA
  | .selEms12 => 0xCB
  | .selEms13 => 0xCC
  | .selEms14 => 0xCD
  | .selEms15 => 0xCE
  | .selEms16 => 0xCF
  | .selDfs1 => 0xD0
  | .selDfs2 => 0xD1
  | .selDfs3 => 0xD2
  | .selDfs4 => 0xD3
  | .selDfs5 => 0xD4
  | .selDfs6 => 0xD5
  | .selDfs7 => 0xD6
  | .selDfs8 => 0xD7
  | .selDfs9 => 0xD8
  | .selDfs10 => 0xD9
  | .selDfs11 => 0xDA
  | .selDfs12 => 0xDB
  | .selDfs13 => 0xDC
  | .selDfs14 => 0xDD
  | .selDfs15 => 0xDE
  | .selDfs16 => 0xDF
  | .sleep => 0x80
  | .cfg sub => 0x80 ||| sub.setWidth 9
  | .cfgUnknown sub => 0x80 ||| sub.setWidth 9
  | .rsvGrp2 idx => 0xE0 ||| idx.setWidth 9
  | .rsvGrp3 idx => 0xF0 ||| idx.setWidth 9
  | .noSentinel v => v.setWidth 9
  | .overWide v => 0x100 ||| v.setWidth 9

/-- `digit(b) = 0x30 + b` (R71). -/
def digitOf (b : Bool) : Byte := if b then chr1 else chr0

/-- The canonical frame of a value: eight digits, CR, LF; a value above 8 bits takes nine digits and CR,
its LF lying beyond the window (R60, R71, R176). -/
def frameOf (v : Value) : Frame :=
  if v.getLsbD 8 then
    #v[digitOf true, digitOf (v.getLsbD 7), digitOf (v.getLsbD 6), digitOf (v.getLsbD 5),
       digitOf (v.getLsbD 4), digitOf (v.getLsbD 3), digitOf (v.getLsbD 2), digitOf (v.getLsbD 1),
       digitOf (v.getLsbD 0), chrCR]
  else
    #v[digitOf (v.getLsbD 7), digitOf (v.getLsbD 6), digitOf (v.getLsbD 5), digitOf (v.getLsbD 4),
       digitOf (v.getLsbD 3), digitOf (v.getLsbD 2), digitOf (v.getLsbD 1), digitOf (v.getLsbD 0),
       chrCR, chrLF]

/-- The canonical frame of a command. -/
def encode (i : Instr) : Frame := frameOf i.value

/-! ## Words numbered as the opcode table numbers them -/

/-- The frame that carries a table word: the table's `match` and `mask` apply to the parsed value
(R67), so the word IS the value and is sent as its digits. A word above 9 bits has no frame with a
terminator in the window: its low ten digits fill the window, and the decoder refuses it (R84). -/
def tableFrame (nbits w : Nat) : Frame :=
  let v := w % 2 ^ nbits
  if v < 512 then frameOf (BitVec.ofNat 9 v)
  else Vector.ofFn (fun i => digitOf (v.testBit (9 - i.val)))

/-- The command the decoder reads from a table word, under the default parameters (R9). -/
def decodeTableWord (nbits w : Nat) : Option Instr :=
  match decode Config.default 10 (tableFrame nbits w) with
  | .instr i => some i
  | .reject _ => none

end Sys2Proof
end

