-- ==== Sys2Proof/Machine/State.lean ====
section
/-! DEFINITION. The state of the block (spec/10_state.md R21), of the transport's residual bytes (R33)
and of its ports (R32), the reasons a step can stop, and the state after reset (R35). -/

namespace Sys2Proof.Machine

/-- `PHASE` (R22): IDLE 0, DECODING 1, RESOLVED 2, REJECTED 3. -/
inductive Phase where
  | idle
  | decoding
  | resolved
  | rejected
deriving DecidableEq, Repr

/-- The six error outcomes (R180, R181). -/
inductive ErrOutcome where
  | feShortOrEmpty
  | feTermOutOfRange
  | peNonBinary
  | peBitWidth
  | ueReservedGroup
  | ueConfig
deriving DecidableEq, Repr

/-- What the channel_select_mux answers (R25, R105). `select g idx` is `Select(g, c)` with chain number
`c = idx + 1`, so `c` is in 1..16 by construction. -/
inductive Mapped where
  | select (g : AntennaGroup) (idx : Fin 16)
  | config (sub : SubOp) (act : CfgAction)
  | err (e : ErrOutcome)
deriving DecidableEq, Repr

/-- `RESULT` (R25): the mapped result, with the terminator index and the parsed value where the decode
produced them. DEDUCED (log entry 7): both are kept for errors too. -/
structure Result where
  mapped : Mapped
  t : Option Nat
  v : Option Value
deriving DecidableEq, Repr

/-- `DIAG` (R30): the diagnostic record, 26 bits in six fields. -/
structure Diag where
  outcome : BitVec 4
  valueValid : BitVec 1
  value : Value
  group : BitVec 1
  chain : BitVec 5
  sub : SubOp
deriving DecidableEq, Repr

/-- A record whose every field reads 0 (R35). -/
def Diag.zero : Diag where
  outcome := 0
  valueValid := 0
  value := 0
  group := 0
  chain := 0
  sub := 0

/-- A line write: `CLEAR_ALL` or `SET(k)`, `k` in 0..33 (R11, R45). -/
inductive LineWrite where
  | clearAll
  | set (k : Fin 34)
deriving DecidableEq, Repr

/-- An event on an output port (R11, R32): a line write with the physical addresses it goes to (R43,
R44), a diagnostic record, a drain request. -/
inductive OutEvent where
  | lineWr (w : LineWrite) (addrs : List LineAddr)
  | diag (d : Diag)
  | drain
deriving DecidableEq, Repr

/-- What the transport does next, as seen by the block (R41): bytes are received; a blocked read returns
and reports `n` bytes (fewer when fewer are held), the rest of the 10-byte buffer holding `pad`, which
no rule reads (R24). A timeout or a transport error is a read with `n < 10` (R32). -/
inductive Input where
  | receive (bs : List Byte)
  | read (n : Fin 11) (pad : Frame)
deriving DecidableEq, Repr

/-- The state. The registers of R21 are `phase` to `drain`; `residual` is the transport's (R33);
`por` is the input pin (R32); `cfg` holds the parameters of the run (R9, R34; log entry 4); `inputs`
(log entry 3) and `out` (log entry 5) are the model's own record of the ports. -/
structure State where
  /-- The open parameters, constant through a run (R34). -/
  cfg : Config
  /-- `PHASE` (R22). -/
  phase : Phase
  /-- `WSEQ`: line writes already performed in the current Resolved cycle (R23). -/
  wseq : BitVec 2
  /-- `FN`: the byte count of the last read (R24). -/
  fn : Fin 11
  /-- `FB`: the last frame buffer (R24). -/
  fb : Frame
  /-- `RESULT` (R25). -/
  result : Result
  /-- `LINES` (R26). -/
  lines : LineLevels
  /-- `DIAG` (R30). -/
  diag : Diag
  /-- `DRAIN` (R31). -/
  drain : Bool
  /-- Bytes the transport has received and the block has not read, oldest first (R33). -/
  residual : List Byte
  /-- The power-on reset pin (R32). -/
  por : Bool
  /-- What the transport still does, oldest first (R41). -/
  inputs : List Input
  /-- Every event put on an output port since power-on, oldest first (R11, R32). Empty in IDLE: no cycle has
  run (log entry 5). -/
  out : List OutEvent
deriving DecidableEq, Repr

/-- The reasons the machine stops. -/
inductive Fault where
  /-- Raised by `State.advance`: PHASE is RESOLVED and neither R113 nor R114 is enabled (WSEQ is past the
  write sequence, or RESULT is an error). No state of a run from reset is such (R110). Safe. -/
  | noEnabledTransition
deriving DecidableEq, Repr

/-- The reasons the model gives no meaning. -/
inductive Refusal where
  /-- Raised by an arm of `exec` whose instruction has no meaning yet; no arm is such. Safe. -/
  | notModelled (mnemonic : String)
  /-- Raised by `State.powerOnReset`: a reset inside a cycle, which a model refuses (R212, U17). Safe. -/
  | resetInsideCycle
  /-- Raised by `State.powerOnReset`: a reset between cycles; `por` occurs once, before the first cycle, and
  there is no warm reset (R212, R32). Safe. -/
  | warmReset
  /-- Raised by `State.runCommand` when `exec` is asked about a command that is not the one in progress:
  PHASE is IDLE, or RESULT belongs to another command. `step` never asks that. Safe. -/
  | notInProgress
deriving DecidableEq, Repr

/-- The state after power-on reset under given parameters (R35, R210). The values of `fn`, `fb` and
`result` (log entry 1), of `residual` (2), and of `por`, `inputs`, `out` (3, 5) are the model's. -/
def State.resetWith (k : Config) : State where
  cfg := k
  phase := .idle
  wseq := 0
  fn := 0
  fb := Vector.replicate 10 0
  result := { mapped := .err .feShortOrEmpty, t := none, v := none }
  lines := k.initLines
  diag := Diag.zero
  drain := false
  residual := []
  por := false
  inputs := []
  out := []

/-- The machine right after reset, under the parameter values the spec uses (R9). -/
def State.reset : State := State.resetWith Config.default

end Sys2Proof.Machine
end

