-- ==== Sys2Proof/Machine/Operands.lean ====
section
/-! DEFINITION. channel_select_mux: from a decoder result to RESULT, the line indices of a Selection, the
write sequence (spec/41_channel_select_mux.md; R26, R117), and the command a RESULT belongs to. -/

namespace Sys2Proof.Machine

/-- The group index: 0 = EMS, 1 = DFS (R8). -/
def groupIndex : AntennaGroup → Nat
  | .ems => 0
  | .dfs => 1

/-- The chain number 1..16 of a zero-based index (R64). -/
def chainNumber (idx : Fin 16) : BitVec 5 := BitVec.ofNat 5 (idx.val + 1)

/-- The RF line of a group and chain: `16*g + (c-1)` (R26, R101). -/
def rfLine (g : AntennaGroup) (idx : Fin 16) : Fin 34 :=
  match g with
  | .ems => ⟨idx.val, by omega⟩
  | .dfs => ⟨16 + idx.val, by omega⟩

/-- The antenna-select line of a group: `32 + g` (R26, R101). -/
def selLine (g : AntennaGroup) : Fin 34 :=
  match g with
  | .ems => 32
  | .dfs => 33

/-- The error outcome of a frame that is no command (R100, R181). -/
def errOfDecode : DecodeError → ErrOutcome
  | .shortOrEmpty => .feShortOrEmpty
  | .termOutOfRange => .feTermOutOfRange
  | .nonBinary => .peNonBinary

/-- `Map(r)`, the whole lookup (R105), by bit fields (R106). -/
def channelMap (k : Config) : Raw → Mapped
  | .frameErr .shortOrEmpty => .err .feShortOrEmpty
  | .frameErr .termOutOfRange => .err .feTermOutOfRange
  | .parseErr .nonBinary _ => .err .peNonBinary
  | .parseErr .bitWidth _ => .err .peBitWidth
  | .selRaw op _ =>
    if op.getLsbD 5 then .err .ueReservedGroup
    else .select (if op.getLsbD 4 then .dfs else .ems) (op.setWidth 4).toFin
  | .cfgRaw op _ =>
    match k.action (op.setWidth 6) with
    | some act => .config (op.setWidth 6) act
    | none => .err .ueConfig

/-- What R112 latches into RESULT for a read result: `Map(Decode(n, b))` with `t` and `v`. -/
def resultOf (k : Config) (n : Nat) (b : Frame) : Result where
  mapped := channelMap k (rawDecode n b)
  t := acceptedTerminator n b
  v := (rawDecode n b).value

/-- `Seq(RESULT)` (R117); an error has no sequence. -/
def writeSeq : Mapped → Option (List LineWrite)
  | .select g idx => some [.clearAll, .set (rfLine g idx), .set (selLine g)]
  | .config _ .clearAll => some [.clearAll]
  | .config _ .noWrite => some []
  | .err _ => none

/-- The result is one of the error outcomes, so its cycle is Rejected (R112). -/
def Mapped.isErr : Mapped → Bool
  | .select _ _ => false
  | .config _ _ => false
  | .err _ => true

/-- `VALUE` of a RESULT: the parsed value, 0 where there is none (R121). -/
def Result.value (r : Result) : Value := r.v.getD 0

/-- The command whose cycle a RESULT belongs to; `none` for a frame that is no command (R67). -/
def Result.command (r : Result) : Option Instr :=
  match r.mapped with
  | .select g idx => some (selInstr g idx)
  | .config sub _ => some (if sub = 0 then .sleep else .cfg sub)
  | .err .feShortOrEmpty => none
  | .err .feTermOutOfRange => none
  | .err .peNonBinary => none
  | .err .peBitWidth => some (badValueOf r.value)
  | .err .ueReservedGroup =>
    some (if r.value.getLsbD 4 then .rsvGrp3 (r.value.setWidth 4) else .rsvGrp2 (r.value.setWidth 4))
  | .err .ueConfig => some (.cfgUnknown (r.value.setWidth 6))

end Sys2Proof.Machine
end

