-- ==== Sys2Proof/Machine/Flags.lean ====
section
/-! DEFINITION. The status a cycle ends with: the outcome codes (R181), the diagnostic record (R121) and
the drain decision (R122). The block has no other flag (R37). -/

namespace Sys2Proof.Machine

/-- The outcome codes of the Rejected outcomes (R181). -/
def errCode : ErrOutcome → BitVec 4
  | .feShortOrEmpty => 0x8
  | .feTermOutOfRange => 0x9
  | .peNonBinary => 0xA
  | .peBitWidth => 0xB
  | .ueReservedGroup => 0xC
  | .ueConfig => 0xD

/-- `DIAG.OUTCOME` of a mapped result (R121, R181). -/
def outcomeCode : Mapped → BitVec 4
  | .select _ _ => 0x0
  | .config _ .clearAll => 0x1
  | .config _ .noWrite => 0x2
  | .err e => errCode e

/-- `GROUP` as the one-bit field of the record (R30). -/
def groupBit (g : AntennaGroup) : BitVec 1 := BitVec.ofNat 1 (groupIndex g)

/-- `Diag(RESULT)` (R121). Fields the table does not list are 0. -/
def diagOf (r : Result) : Diag :=
  match r.mapped with
  | .select g idx =>
    { outcome := outcomeCode r.mapped, valueValid := 1, value := r.value,
      group := groupBit g, chain := chainNumber idx, sub := 0 }
  | .config sub _ =>
    { outcome := outcomeCode r.mapped, valueValid := 1, value := r.value,
      group := 0, chain := 0, sub := sub }
  | .err .feShortOrEmpty | .err .feTermOutOfRange | .err .peNonBinary =>
    { outcome := outcomeCode r.mapped, valueValid := 0, value := 0, group := 0, chain := 0, sub := 0 }
  | .err .peBitWidth | .err .ueReservedGroup =>
    { outcome := outcomeCode r.mapped, valueValid := 1, value := r.value,
      group := 0, chain := 0, sub := 0 }
  | .err .ueConfig =>
    { outcome := outcomeCode r.mapped, valueValid := 1, value := r.value,
      group := 0, chain := 0, sub := r.value.setWidth 6 }

/-- `DrainReq(RESULT)` (R122): every Rejected cycle, and a Resolved one whose terminator index is not 8. -/
def drainReq (r : Result) : Bool :=
  match r.mapped with
  | .err _ => true
  | _ => r.t != some 8

end Sys2Proof.Machine
end

