-- ==== Sys2Proof/Machine/Ops.lean ====
section
/-! DEFINITION. output_line_arbiter: the line write, the status outputs, the transitions R111 to R115 over
PHASE and WSEQ, taking and leaving a rejection (spec/60_exceptions.md), power-on reset
(spec/70_reset_and_hazards.md), and the transport's moves (R41, R55). -/

namespace Sys2Proof.Machine

/-- An answer of one step. -/
abbrev Answer := Host.Outcome State Fault Refusal

/-! ## Line writes (R119, R43, R44) -/

/-- The effect of one write on LINES (R119). -/
def LineWrite.apply (w : LineWrite) (x : LineLevels) : LineLevels :=
  match w with
  | .clearAll => 0
  | .set k => x ||| (1#34 <<< k.val)

/-- The physical addresses a write goes to: `LINE_ADDR(k)`, or channel 0 of every slot LINE_ADDR uses
(R43, R44). -/
def LineWrite.addrs (k : Config) (w : LineWrite) : List LineAddr :=
  match w with
  | .clearAll => (k.lineAddr.toList.map (fun a => a.slot)).eraseDups.map (fun s => { slot := s, channel := 0 })
  | .set i => [k.lineAddr[i]]

/-- `LineWrite(w)`: the level change and the event on `line_wr` (R11, R119). -/
def State.lineWrite (w : LineWrite) (s : State) : State :=
  { s with lines := w.apply s.lines, out := s.out ++ [.lineWr w (w.addrs s.cfg)] }

/-! ## Status outputs (R30, R31) -/

/-- `emit DIAG(d)` (R11, R30). -/
def State.emitDiag (d : Diag) (s : State) : State :=
  { s with diag := d, out := s.out ++ [.diag d] }

/-- `DRAIN <- d` at the end of a cycle (R31). When it is 1 the request goes out and the transport
discards every received, unread byte (R55). DESIGN CHOICE (log entry 3): at once; the spec says before
the next read (R31). -/
def State.setDrain (d : Bool) (s : State) : State :=
  { s with
    drain := d
    residual := if d then [] else s.residual
    out := if d then s.out ++ [.drain] else s.out }

/-! ## Accept (R111) and the transport's moves (R41) -/

/-- How many bytes a read asked to report `n` reports: no more than the transport holds. -/
def readCount (n : Fin 11) (residual : List Byte) : Fin 11 :=
  ⟨min n.val residual.length, by omega⟩

/-- The 10-byte buffer of a read that reports `m` bytes: the first received bytes, then `pad`. -/
def readBuffer (m : Fin 11) (pad : Frame) (residual : List Byte) : Frame :=
  Vector.ofFn (fun i => if i.val < m.val then residual.getD i.val 0 else pad[i])

/-- Accept (R111): latch the read result, clear DRAIN, go to DECODING. -/
def State.accept (n : Fin 11) (b : Frame) (s : State) : State :=
  { s with fn := n, fb := b, drain := false, phase := .decoding }

/-- One move in IDLE: wait when nothing is presented (R110), take in received bytes, or accept the read
result the transport presents, whose bytes leave its queue (R41, R111). -/
def State.idleMove (s : State) : State :=
  match s.inputs with
  | [] => s
  | .receive bs :: rest => { s with residual := s.residual ++ bs, inputs := rest }
  | .read n pad :: rest =>
    let m := readCount n s.residual
    { s with residual := s.residual.drop m.val, inputs := rest }.accept m (readBuffer m pad s.residual)

/-! ## Decode transition (R112, R186) -/

/-- The terminator index of the latched frame (R25). -/
def State.term (s : State) : Option Nat := acceptedTerminator s.fn.val s.fb

/-- DECODING to RESOLVED with an accepted action (R112). -/
def State.enterResolved (m : Mapped) (v : Value) (s : State) : State :=
  { s with result := { mapped := m, t := s.term, v := some v }, wseq := 0, phase := .resolved }

/-- DECODING to REJECTED, the one way an error is taken (R112, R186): RESULT holds the outcome and the
value, if the parse produced one; nothing else is saved and no line is written. -/
def State.enterRejected (e : ErrOutcome) (v : Option Value) (s : State) : State :=
  { s with result := { mapped := .err e, t := s.term, v := v }, wseq := 0, phase := .rejected }

/-! ## Writes and completion (R113 to R115, R188) -/

/-- One write step (R113). -/
def State.writeStep (w : LineWrite) (s : State) : State :=
  { s.lineWrite w with wseq := s.wseq + 1 }

/-- Resolved completion (R114). -/
def State.completeResolved (s : State) : State :=
  { (s.emitDiag (diagOf s.result)).setDrain (drainReq s.result) with wseq := 0, phase := .idle }

/-- Rejected completion, the return from an error (R115, R188). -/
def State.completeRejected (s : State) : State :=
  { (s.emitDiag (diagOf s.result)).setDrain true with phase := .idle }

/-- The transition of a RESOLVED state: R113 while writes remain, R114 after the last; the model stops
where neither is enabled. -/
def State.resolvedStep (s : State) : Answer :=
  match writeSeq s.result.mapped with
  | none => .fault .noEnabledTransition
  | some q =>
    match q[s.wseq.toNat]? with
    | some w => .next (s.writeStep w)
    | none => if s.wseq.toNat = q.length then .next s.completeResolved else .fault .noEnabledTransition

/-- The transition of a state whose result is latched (R113 to R115); IDLE and DECODING states have none
here. -/
def State.advance (s : State) : Answer :=
  match s.phase with
  | .resolved => s.resolvedStep
  | .rejected => .next s.completeRejected
  | .idle | .decoding => .refused .notInProgress

/-! ## A command's transition (R110) -/

/-- The transition a command takes: from DECODING the latch `enter`, and in RESOLVED and REJECTED, when
RESULT is this command's, the next write or the completion. -/
def State.runCommand (i : Instr) (enter : State → State) (s : State) : Answer :=
  match s.phase with
  | .decoding => .next (enter s)
  | .idle => .refused .notInProgress
  | .resolved | .rejected => if s.result.command = some i then s.advance else .refused .notInProgress

/-! ## Power-on reset (R210, R212) -/

/-- No cycle has run since power-on: every cycle ends by emitting its record (R116, R121), so the record
of the ports is still empty. -/
def State.noCycleRan (s : State) : Bool := s.out.isEmpty

/-- `por`: the reset values of R35 in one step, before the first cycle only; refused inside a cycle and,
there being no warm reset, between cycles (R212). The parameters and the transport are not the block's to
reset (R34, R35). -/
def State.powerOnReset (s : State) : Answer :=
  match s.phase with
  | .idle =>
    if s.noCycleRan then .next { State.resetWith s.cfg with residual := s.residual, inputs := s.inputs }
    else .refused .warmReset
  | .decoding | .resolved | .rejected => .refused .resetInsideCycle

end Sys2Proof.Machine
end

