-- ==== Sys2Proof/Machine/Rejected.lean ====
section
/-! DEFINITION. The rejected encodings (spec/44_sleep_config_ops.md R172 to R176). Each takes the Rejected
path with its outcome and its value. -/

namespace Sys2Proof.Machine

/-- `CFG_UNKNOWN` (R172). -/
def execCfgUnknown (sub : SubOp) (s : State) : Answer :=
  s.runCommand (.cfgUnknown sub) (State.enterRejected .ueConfig (some (0x80 ||| sub.setWidth 9)))

/-- `RSV_GRP2` (R173). -/
def execRsvGrp2 (idx : BitVec 4) (s : State) : Answer :=
  s.runCommand (.rsvGrp2 idx) (State.enterRejected .ueReservedGroup (some (0xE0 ||| idx.setWidth 9)))

/-- `RSV_GRP3` (R174). -/
def execRsvGrp3 (idx : BitVec 4) (s : State) : Answer :=
  s.runCommand (.rsvGrp3 idx) (State.enterRejected .ueReservedGroup (some (0xF0 ||| idx.setWidth 9)))

/-- `NO_SENTINEL` (R175). -/
def execNoSentinel (v : BitVec 7) (s : State) : Answer :=
  s.runCommand (.noSentinel v) (State.enterRejected .peBitWidth (some (v.setWidth 9)))

/-- `OVER_WIDE` (R176). -/
def execOverWide (v : BitVec 8) (s : State) : Answer :=
  s.runCommand (.overWide v) (State.enterRejected .peBitWidth (some (0x100 ||| v.setWidth 9)))

end Sys2Proof.Machine
end

