-- ==== Sys2Proof/Machine/Selection.lean ====
section
/-! DEFINITION. The Selection commands (spec/43_selection_ops.md R130 to R162). -/

namespace Sys2Proof.Machine

/-- `SEL grp,c` (R130): decode latches `Select(g, c)` with its opcode; then CLEAR_ALL, SET(rf), SET(sel),
completion. -/
def execSel (i : Instr) (g : AntennaGroup) (idx : Fin 16) (op : Value) (s : State) : Answer :=
  s.runCommand i (State.enterResolved (.select g idx) op)

/-- `SEL EMS,1` (R131). -/
def execSelEms1 (s : State) : Answer := execSel .selEms1 .ems 0 0xC0 s
/-- `SEL EMS,2` (R132). -/
def execSelEms2 (s : State) : Answer := execSel .selEms2 .ems 1 0xC1 s
/-- `SEL EMS,3` (R133). -/
def execSelEms3 (s : State) : Answer := execSel .selEms3 .ems 2 0xC2 s
/-- `SEL EMS,4` (R134). -/
def execSelEms4 (s : State) : Answer := execSel .selEms4 .ems 3 0xC3 s
/-- `SEL EMS,5` (R135). -/
def execSelEms5 (s : State) : Answer := execSel .selEms5 .ems 4 0xC4 s
/-- `SEL EMS,6` (R136). -/
def execSelEms6 (s : State) : Answer := execSel .selEms6 .ems 5 0xC5 s
/-- `SEL EMS,7` (R137). -/
def execSelEms7 (s : State) : Answer := execSel .selEms7 .ems 6 0xC6 s
/-- `SEL EMS,8` (R138). -/
def execSelEms8 (s : State) : Answer := execSel .selEms8 .ems 7 0xC7 s
/-- `SEL EMS,9` (R139). -/
def execSelEms9 (s : State) : Answer := execSel .selEms9 .ems 8 0xC8 s
/-- `SEL EMS,10` (R140). -/
def execSelEms10 (s : State) : Answer := execSel .selEms10 .ems 9 0xC9 s
/-- `SEL EMS,11` (R141). -/
def execSelEms11 (s : State) : Answer := execSel .selEms11 .ems 10 0xCA s
/-- `SEL EMS,12` (R142). -/
def execSelEms12 (s : State) : Answer := execSel .selEms12 .ems 11 0xCB s
/-- `SEL EMS,13` (R143). -/
def execSelEms13 (s : State) : Answer := execSel .selEms13 .ems 12 0xCC s
/-- `SEL EMS,14` (R144). -/
def execSelEms14 (s : State) : Answer := execSel .selEms14 .ems 13 0xCD s
/-- `SEL EMS,15` (R145). -/
def execSelEms15 (s : State) : Answer := execSel .selEms15 .ems 14 0xCE s
/-- `SEL EMS,16` (R146). -/
def execSelEms16 (s : State) : Answer := execSel .selEms16 .ems 15 0xCF s
/-- `SEL DFS,1` (R147). -/
def execSelDfs1 (s : State) : Answer := execSel .selDfs1 .dfs 0 0xD0 s
/-- `SEL DFS,2` (R148). -/
def execSelDfs2 (s : State) : Answer := execSel .selDfs2 .dfs 1 0xD1 s
/-- `SEL DFS,3` (R149). -/
def execSelDfs3 (s : State) : Answer := execSel .selDfs3 .dfs 2 0xD2 s
/-- `SEL DFS,4` (R150). -/
def execSelDfs4 (s : State) : Answer := execSel .selDfs4 .dfs 3 0xD3 s
/-- `SEL DFS,5` (R151). -/
def execSelDfs5 (s : State) : Answer := execSel .selDfs5 .dfs 4 0xD4 s
/-- `SEL DFS,6` (R152). -/
def execSelDfs6 (s : State) : Answer := execSel .selDfs6 .dfs 5 0xD5 s
/-- `SEL DFS,7` (R153). -/
def execSelDfs7 (s : State) : Answer := execSel .selDfs7 .dfs 6 0xD6 s
/-- `SEL DFS,8` (R154). -/
def execSelDfs8 (s : State) : Answer := execSel .selDfs8 .dfs 7 0xD7 s
/-- `SEL DFS,9` (R155). -/
def execSelDfs9 (s : State) : Answer := execSel .selDfs9 .dfs 8 0xD8 s
/-- `SEL DFS,10` (R156). -/
def execSelDfs10 (s : State) : Answer := execSel .selDfs10 .dfs 9 0xD9 s
/-- `SEL DFS,11` (R157). -/
def execSelDfs11 (s : State) : Answer := execSel .selDfs11 .dfs 10 0xDA s
/-- `SEL DFS,12` (R158). -/
def execSelDfs12 (s : State) : Answer := execSel .selDfs12 .dfs 11 0xDB s
/-- `SEL DFS,13` (R159). -/
def execSelDfs13 (s : State) : Answer := execSel .selDfs13 .dfs 12 0xDC s
/-- `SEL DFS,14` (R160). -/
def execSelDfs14 (s : State) : Answer := execSel .selDfs14 .dfs 13 0xDD s
/-- `SEL DFS,15` (R161). -/
def execSelDfs15 (s : State) : Answer := execSel .selDfs15 .dfs 14 0xDE s
/-- `SEL DFS,16` (R162). -/
def execSelDfs16 (s : State) : Answer := execSel .selDfs16 .dfs 15 0xDF s

end Sys2Proof.Machine
end

