-- ==== Sys2Proof/Machine/SleepConfig.lean ====
section
/-! DEFINITION. SLEEP and the recognised config commands (spec/44_sleep_config_ops.md R170, R171). -/

namespace Sys2Proof.Machine

/-- `SLEEP` (R170): `Config(0, ClearAll)`, so one CLEAR_ALL write and the completion. -/
def execSleep (s : State) : Answer :=
  s.runCommand .sleep (State.enterResolved (.config 0 .clearAll) 0x80)

/-- `CFG` (R171): `Config(sub, CFG_ACTION(sub))`. A `sub` outside CFG_RECOGNISED is no `CFG` command; the
lookup rejects it (R103). -/
def execCfg (sub : SubOp) (s : State) : Answer :=
  s.runCommand (.cfg sub) (fun s =>
    match s.cfg.action sub with
    | some act => s.enterResolved (.config sub act) (0x80 ||| sub.setWidth 9)
    | none => s.enterRejected .ueConfig (some (0x80 ||| sub.setWidth 9)))

end Sys2Proof.Machine
end

