-- ==== Sys2Proof/Machine/Dispatch.lean ====
section
/-! DEFINITION. The transition each command takes in a state: one arm per row of spec/opcode_table.json. -/

namespace Sys2Proof.Machine

def exec (i : Instr) (s : State) : Host.Outcome State Fault Refusal :=
  match i with
  | .selEms1 => Sys2Proof.Machine.execSelEms1 s
  | .selEms2 => Sys2Proof.Machine.execSelEms2 s
  | .selEms3 => Sys2Proof.Machine.execSelEms3 s
  | .selEms4 => Sys2Proof.Machine.execSelEms4 s
  | .selEms5 => Sys2Proof.Machine.execSelEms5 s
  | .selEms6 => Sys2Proof.Machine.execSelEms6 s
  | .selEms7 => Sys2Proof.Machine.execSelEms7 s
  | .selEms8 => Sys2Proof.Machine.execSelEms8 s
  | .selEms9 => Sys2Proof.Machine.execSelEms9 s
  | .selEms10 => Sys2Proof.Machine.execSelEms10 s
  | .selEms11 => Sys2Proof.Machine.execSelEms11 s
  | .selEms12 => Sys2Proof.Machine.execSelEms12 s
  | .selEms13 => Sys2Proof.Machine.execSelEms13 s
  | .selEms14 => Sys2Proof.Machine.execSelEms14 s
  | .selEms15 => Sys2Proof.Machine.execSelEms15 s
  | .selEms16 => Sys2Proof.Machine.execSelEms16 s
  | .selDfs1 => Sys2Proof.Machine.execSelDfs1 s
  | .selDfs2 => Sys2Proof.Machine.execSelDfs2 s
  | .selDfs3 => Sys2Proof.Machine.execSelDfs3 s
  | .selDfs4 => Sys2Proof.Machine.execSelDfs4 s
  | .selDfs5 => Sys2Proof.Machine.execSelDfs5 s
  | .selDfs6 => Sys2Proof.Machine.execSelDfs6 s
  | .selDfs7 => Sys2Proof.Machine.execSelDfs7 s
  | .selDfs8 => Sys2Proof.Machine.execSelDfs8 s
  | .selDfs9 => Sys2Proof.Machine.execSelDfs9 s
  | .selDfs10 => Sys2Proof.Machine.execSelDfs10 s
  | .selDfs11 => Sys2Proof.Machine.execSelDfs11 s
  | .selDfs12 => Sys2Proof.Machine.execSelDfs12 s
  | .selDfs13 => Sys2Proof.Machine.execSelDfs13 s
  | .selDfs14 => Sys2Proof.Machine.execSelDfs14 s
  | .selDfs15 => Sys2Proof.Machine.execSelDfs15 s
  | .selDfs16 => Sys2Proof.Machine.execSelDfs16 s
  | .sleep => Sys2Proof.Machine.execSleep s
  | .cfg sub => Sys2Proof.Machine.execCfg sub s
  | .cfgUnknown sub => Sys2Proof.Machine.execCfgUnknown sub s
  | .rsvGrp2 idx => Sys2Proof.Machine.execRsvGrp2 idx s
  | .rsvGrp3 idx => Sys2Proof.Machine.execRsvGrp3 idx s
  | .noSentinel v => Sys2Proof.Machine.execNoSentinel v s
  | .overWide v => Sys2Proof.Machine.execOverWide v s

end Sys2Proof.Machine
end

