-- ==== Sys2Proof/Machine/Step.lean ====
section
/-! DEFINITION. One step of the machine (R110): one transition of the block, or one move of the transport
while the block waits; and the placing of an instruction where the next step runs it. -/

namespace Sys2Proof.Machine

/-- One step. A DECODING state runs the command its latch holds, or takes the error of a frame that holds
none (R112); a state with a latched result runs on with the command of that result (R113 to R115), and
a rejected frame that is no command completes by the same transition. -/
def step (s : State) : Host.Outcome State Fault Refusal :=
  if s.por then s.powerOnReset
  else match s.phase with
    | .idle => .next s.idleMove
    | .decoding =>
      match decode s.cfg s.fn.val s.fb with
      | .instr i => exec i s
      | .reject e => .next (s.enterRejected (errOfDecode e) none)
    | .resolved | .rejected =>
      match s.result.command with
      | some i => exec i s
      | none => s.advance

/-- The state in which the canonical frame of a table word has just been accepted (R111), so that the very
next step decodes and runs it: the latch, DRAIN and PHASE as an accept leaves them, and no reset pending
(log entry 6). -/
def State.withFetchWord (s : State) (nbits w : Nat) : State :=
  { s.accept 10 (tableFrame nbits w) with por := false }

end Sys2Proof.Machine
end

