-- ==== Sys2Proof/Machine/Cycle.lean ====
section
/-! DEFINITION. One whole cycle as a function (R123), beside the transitions it abbreviates: what a cycle
leaves, and how many steps it takes (R129). No step uses these. -/

namespace Sys2Proof.Machine

/-- The writes of a cycle (R117); a Rejected cycle has none (R120). -/
def cycleWrites (m : Mapped) : List LineWrite := (writeSeq m).getD []

/-- The steps of a cycle from DECODING back to IDLE: decode, the writes, completion (R129). -/
def cycleSteps (m : Mapped) : Nat := (cycleWrites m).length + 2

/-- Line writes performed in issue order (R48, R49). -/
def applyWrites (ws : List LineWrite) (x : LineLevels) : LineLevels :=
  ws.foldl (fun y w => w.apply y) x

/-- `Cycle(LINES, n, b)` in the spec's own form (R123). -/
def cycle (k : Config) (lines : LineLevels) (n : Nat) (b : Frame) : LineLevels × Diag × Bool :=
  let r := resultOf k n b
  match r.mapped with
  | .err _ => (lines, diagOf r, true)
  | .select g idx => ((1#34 <<< (rfLine g idx).val) ||| (1#34 <<< (selLine g).val), diagOf r, r.t != some 8)
  | .config _ .clearAll => (0, diagOf r, r.t != some 8)
  | .config _ .noWrite => (lines, diagOf r, r.t != some 8)

/-- The state at the end of the cycle of the latched frame, every field named (R112 to R122, R55). -/
def State.afterCycle (s : State) : State :=
  let r := resultOf s.cfg s.fn.val s.fb
  let ws := cycleWrites r.mapped
  { s with
    phase := .idle
    wseq := 0
    result := r
    lines := applyWrites ws s.lines
    diag := diagOf r
    drain := drainReq r
    residual := if drainReq r then [] else s.residual
    out := s.out ++ ws.map (fun w => .lineWr w (w.addrs s.cfg)) ++ [.diag (diagOf r)]
      ++ (if drainReq r then [.drain] else []) }

end Sys2Proof.Machine
end

