-- ==== Sys2Proof/Safety.lean ====
section
/-! DEFINITION. What counts as a safe run: the exclusion of the output lines (R29), the invariants of the
sequencing registers and of the write history, and the runs statements speak of. -/

namespace Sys2Proof.Machine

/-! ## Exclusion (R29) -/

/-- The 16 RF lines of a group: `x[16*g+15 : 16*g]`. -/
def chainBits (x : LineLevels) (g : AntennaGroup) : BitVec 16 := x.extractLsb' (16 * groupIndex g) 16

/-- The number of set bits. -/
def popcount (x : BitVec 16) : Nat := (List.range 16).countP (fun i => x.getLsbD i)

/-- R29 for one group: at most one chain line, and the select line exactly when there is one. -/
def exclGroup (x : LineLevels) (g : AntennaGroup) : Bool :=
  decide (popcount (chainBits x g) ≤ 1) && (x.getLsbD (32 + groupIndex g) == (chainBits x g != 0))

/-- `EXCL(x)` (R29). -/
def excl (x : LineLevels) : Bool := exclGroup x .ems && exclGroup x .dfs

/-! ## Invariants -/

/-- The write a port event performed, if it is a write. -/
def OutEvent.write? : OutEvent → Option LineWrite
  | .lineWr w _ => some w
  | .diag _ => none
  | .drain => none

/-- The event is a diagnostic record. -/
def OutEvent.isDiag : OutEvent → Bool
  | .lineWr _ _ => false
  | .diag _ => true
  | .drain => false

/-- Every line write issued so far, in issue order. -/
def State.writes (s : State) : List LineWrite := s.out.filterMap OutEvent.write?

/-- The number of diagnostic records emitted so far. -/
def State.diagCount (s : State) : Nat := s.out.countP OutEvent.isDiag

/-- The sequencing registers agree with the latched frame: WSEQ is 0 outside RESOLVED (R23); a latched
result is the mapped decode of the latched frame (R112, R186); RESOLVED holds an accepted action with
WSEQ within its sequence, REJECTED an error (R22). -/
structure State.Sequenced (s : State) : Prop where
  wseq_zero : s.phase ≠ .resolved → s.wseq = 0
  latched : s.phase = .resolved ∨ s.phase = .rejected → s.result = resultOf s.cfg s.fn.val s.fb
  resolved : s.phase = .resolved →
    ∃ ws, writeSeq s.result.mapped = some ws ∧ s.wseq.toNat ≤ ws.length
  rejected : s.phase = .rejected → ∃ e, s.result.mapped = .err e

/-- Sequential consistency with a single writer (R49): LINES is every write issued so far, in issue
order, applied to the reset value. -/
def State.Replayed (s : State) : Prop := s.lines = applyWrites s.writes s.cfg.initLines

/-- Exclusion outside a write sequence, and inside one the progress that restores it (R124, R47): LINES is
an exclusive level with the writes done so far applied. The launch premise is R214's. -/
structure State.Exclusive (s : State) : Prop where
  init : excl s.cfg.initLines = true
  outside : s.phase ≠ .resolved → excl s.lines = true
  inside : s.phase = .resolved →
    ∃ base ws, excl base = true ∧ writeSeq s.result.mapped = some ws ∧ s.wseq.toNat ≤ ws.length ∧
      s.lines = applyWrites (ws.take s.wseq.toNat) base

/-- A code R181 lists. -/
def listedCode (c : BitVec 4) : Bool := decide (c.toNat ≤ 2 ∨ (8 ≤ c.toNat ∧ c.toNat ≤ 13))

/-- The codes of the records emitted so far are codes R181 lists. -/
def State.CodesListed (s : State) : Prop :=
  ∀ d, OutEvent.diag d ∈ s.out → listedCode d.outcome = true

/-! ## Runs -/

/-- `k` steps, stopping at the first stop: the host's run of this machine. -/
def steps : Nat → State → Answer
  | 0, s => .next s
  | k + 1, s =>
    match step s with
    | .next t => steps k t
    | .fault f => .fault f
    | .refused r => .refused r

/-- `k` steps from `s` end in `t`, none of them a stop. -/
def State.Runs (s : State) (k : Nat) (t : State) : Prop := steps k s = .next t

/-- The frame `b` has just been accepted in full, with no reset pending (R111). -/
def State.Latched (s : State) (b : Frame) : Prop :=
  s.phase = .decoding ∧ s.por = false ∧ s.fn = 10 ∧ s.fb = b

/-! ## A row of the Selection table (R130 to R162) -/

/-- The event of a write on the ports (R11). -/
def State.writeEvent (s : State) (w : LineWrite) : OutEvent := .lineWr w (w.addrs s.cfg)

/-- The record a Selection ends with (R130). -/
def selDiag (op : Value) (g : AntennaGroup) (chain : BitVec 5) : Diag where
  outcome := 0x0
  valueValid := 1
  value := op
  group := match g with | .ems => 0 | .dfs => 1
  chain := chain
  sub := 0

/-- What a rule R131 to R162 says of its command `i`: its frame; the transition `exec` makes in each state
of its cycle (decode; CLEAR_ALL; SET(rf); SET(sel); completion); and the whole cycle of its canonical
frame from any LINES, which ends with `lines` and DRAIN = 0. What the transport keeps when a cycle ends with
DRAIN = 1 is left open in all the rows below: it is no part of the commands' rules. -/
structure SelRow (i : Instr) (g : AntennaGroup) (idx : Fin 16) (chain : BitVec 5) (op : Value) (frame : Frame)
    (rf sel : Fin 34) (lines : LineLevels) : Prop where
  encodes : i.value = op ∧ encode i = frame ∧ ∀ k, decode k 10 frame = .instr i
  sequence : writeSeq (.select g idx) = some [.clearAll, .set rf, .set sel]
  decodes : ∀ s : State, s.phase = .decoding →
    exec i s = .next { s with
      result := { mapped := .select g idx, t := s.term, v := some op }, wseq := 0, phase := .resolved }
  clears : ∀ s : State, s.phase = .resolved → s.result.mapped = .select g idx → s.wseq = 0 →
    exec i s = .next { s with
      lines := 0, wseq := 1, out := s.out ++ [s.writeEvent .clearAll] }
  asserts_rf : ∀ s : State, s.phase = .resolved → s.result.mapped = .select g idx → s.wseq = 1 →
    exec i s = .next { s with
      lines := s.lines ||| (1#34 <<< rf.val), wseq := 2, out := s.out ++ [s.writeEvent (.set rf)] }
  asserts_sel : ∀ s : State, s.phase = .resolved → s.result.mapped = .select g idx → s.wseq = 2 →
    exec i s = .next { s with
      lines := s.lines ||| (1#34 <<< sel.val), wseq := 3, out := s.out ++ [s.writeEvent (.set sel)] }
  completes : ∀ s : State, s.phase = .resolved → s.result.mapped = .select g idx → s.wseq = 3 →
    s.result.v = some op →
    ∃ kept : List Byte, (s.result.t = some 8 → kept = s.residual) ∧ exec i s = .next { s with
      diag := selDiag op g chain
      drain := s.result.t != some 8
      residual := kept
      wseq := 0
      phase := .idle
      out := s.out ++ [.diag (selDiag op g chain)] ++ (if s.result.t = some 8 then [] else [.drain]) }
  whole_cycle : ∀ s : State, s.Latched frame →
    s.Runs 5 { s with
      phase := .idle
      wseq := 0
      result := { mapped := .select g idx, t := some 8, v := some op }
      lines := lines
      diag := selDiag op g chain
      drain := false
      out := s.out ++ [s.writeEvent .clearAll, s.writeEvent (.set rf), s.writeEvent (.set sel),
        .diag (selDiag op g chain)] }

/-! ## A row of the Sleep/Config table (R170, R171) -/

/-- The writes of a config action (R117). -/
def configWrites : CfgAction → List LineWrite
  | .clearAll => [.clearAll]
  | .noWrite => []

/-- The record a recognised config command ends with (R170, R171). -/
def configDiag (act : CfgAction) (v : Value) (sub : SubOp) : Diag where
  outcome := match act with | .clearAll => 0x1 | .noWrite => 0x2
  valueValid := 1
  value := v
  group := 0
  chain := 0
  sub := sub

/-- What R170 and R171 say of command `i` with sub-opcode `sub`, action `act` and opcode `v`, in states
whose parameters recognise it: decode, the write if there is one, completion, and the whole cycle of any
frame that holds the command. -/
structure ConfigRow (i : Instr) (sub : SubOp) (act : CfgAction) (v : Value) : Prop where
  decodes : ∀ s : State, s.cfg.action sub = some act → s.phase = .decoding →
    exec i s = .next { s with
      result := { mapped := .config sub act, t := s.term, v := some v }, wseq := 0, phase := .resolved }
  clears : act = .clearAll → ∀ s : State,
    s.phase = .resolved → s.result.mapped = .config sub act → s.wseq = 0 →
    exec i s = .next { s with
      lines := 0, wseq := 1, out := s.out ++ [s.writeEvent .clearAll] }
  completes : ∀ s : State, s.phase = .resolved → s.result.mapped = .config sub act →
    s.wseq.toNat = (configWrites act).length → s.result.v = some v →
    ∃ kept : List Byte, (s.result.t = some 8 → kept = s.residual) ∧ exec i s = .next { s with
      diag := configDiag act v sub
      drain := s.result.t != some 8
      residual := kept
      wseq := 0
      phase := .idle
      out := s.out ++ [.diag (configDiag act v sub)] ++ (if s.result.t = some 8 then [] else [.drain]) }
  whole_cycle : ∀ s : State, s.cfg.action sub = some act → s.phase = .decoding → s.por = false →
    decode s.cfg s.fn.val s.fb = .instr i →
    ∃ kept : List Byte, (s.term = some 8 → kept = s.residual) ∧ s.Runs ((configWrites act).length + 2) { s with
      phase := .idle
      wseq := 0
      result := { mapped := .config sub act, t := s.term, v := some v }
      lines := match act with | .clearAll => 0 | .noWrite => s.lines
      diag := configDiag act v sub
      drain := s.term != some 8
      residual := kept
      out := s.out ++ (configWrites act).map s.writeEvent ++ [.diag (configDiag act v sub)]
        ++ (if s.term = some 8 then [] else [.drain]) }

/-! ## A row of the rejected encodings (R172 to R176) -/

/-- The record a Rejected cycle with a value ends with (R121). -/
def rejectDiag (e : ErrOutcome) (v : Value) (sub : SubOp) : Diag where
  outcome := errCode e
  valueValid := 1
  value := v
  group := 0
  chain := 0
  sub := sub

/-- What R172 to R176 say of command `i`: decode takes outcome `e` with value `v`, no line is written, the
completion emits the record and requests the drain; and the whole cycle of any frame that holds the
command. -/
structure RejectRow (i : Instr) (e : ErrOutcome) (v : Value) (sub : SubOp) : Prop where
  enters : ∀ s : State, s.phase = .decoding →
    exec i s = .next { s with
      result := { mapped := .err e, t := s.term, v := some v }, wseq := 0, phase := .rejected }
  completes : ∀ s : State, s.phase = .rejected → s.result.mapped = .err e → s.result.v = some v →
    ∃ kept : List Byte, exec i s = .next { s with
      diag := rejectDiag e v sub
      drain := true
      residual := kept
      phase := .idle
      out := s.out ++ [.diag (rejectDiag e v sub), .drain] }
  whole_cycle : ∀ s : State, s.phase = .decoding → s.por = false →
    decode s.cfg s.fn.val s.fb = .instr i →
    ∃ kept : List Byte, s.Runs 2 { s with
      phase := .idle
      wseq := 0
      result := { mapped := .err e, t := s.term, v := some v }
      diag := rejectDiag e v sub
      drain := true
      residual := kept
      out := s.out ++ [.diag (rejectDiag e v sub), .drain] }

end Sys2Proof.Machine
end

