-- ==== Sys2Proof/Certificates/Slice0/Obligations.lean ====
section
/-! DEFINITION. The statements about the block, from the numbered rules of spec/. -/

open Sys2Proof Sys2Proof.Machine

/-- Power-on reset before the first cycle takes the reset values in one step. R210, R35; R212 for the premise that no cycle has run. FN, FB and RESULT are unspecified after reset; nothing is said of them. That no cycle has run is read off the empty record of the ports, the model's form (log entry 5). -/
def Obligations.PorTakesResetValues : Prop :=
  (∀ s : State, s.por = true → s.phase = .idle → s.out = [] →
    ∃ t, step s = .next t ∧ t.phase = .idle ∧ t.wseq = 0 ∧ t.drain = false ∧
      t.diag = Diag.zero ∧ t.diagCount = 0 ∧ t.lines = s.cfg.initLines ∧ t.cfg = s.cfg) ∧
  (State.reset.phase = .idle ∧ State.reset.wseq = 0 ∧ State.reset.drain = false ∧
    State.reset.diag = Diag.zero ∧ State.reset.diagCount = 0 ∧
    State.reset.lines = State.reset.cfg.initLines)

/-- A reset inside a cycle or after one is refused. R212: a model refuses a reset inside a cycle, and there is no warm reset. That the model stops on a reset between cycles (log entry 3), and reads off the record of the ports that a cycle has run (log entry 5), is the model's form. -/
def Obligations.PorRefusedOnceACycleRuns : Prop :=
  (∀ s : State, s.por = true → s.phase ≠ .idle → step s = .refused .resetInsideCycle) ∧
  (∀ s : State, s.por = true → s.phase = .idle → s.out ≠ [] → step s = .refused .warmReset) ∧
  (∀ s : State, s.por = false → s.phase = .decoding →
    ∃ t : State, s.Runs (cycleSteps (channelMap s.cfg (rawDecode s.fn.val s.fb))) t ∧ t.phase = .idle ∧
      step { t with por := true } = .refused .warmReset)

/-- Power-on reset releases the pin and leaves the transport alone. R35 leaves the residual bytes to the transport. That the pin is released by the step is the model's choice (log entry 3), that the bytes are kept is the model's (log entry 2); that no cycle has run is read off the empty record of the ports (log entry 5); INIT_LINES = 0 is the spec's decision D14. -/
def Obligations.PorKeepsTheTransport : Prop :=
  (∀ s : State, s.por = true → s.phase = .idle → s.out = [] →
    ∃ t, step s = .next t ∧ t.por = false ∧ t.residual = s.residual ∧ t.inputs = s.inputs) ∧
  State.reset.lines = 0 ∧ State.reset.por = false

/-- Accept latches the presented read result. R111; the bytes are R42's and R52's. That a presented read is an entry of `inputs` and reports no more bytes than are held is the model's form (log entry 3). -/
def Obligations.AcceptLatchesTheRead : Prop :=
  ∀ (s : State) (n : Fin 11) (pad : Frame) (rest : List Input),
    s.por = false → s.phase = .idle → s.inputs = .read n pad :: rest →
    ∃ (m : Fin 11) (b : Frame),
      m.val = min n.val s.residual.length ∧
      (∀ (i : Nat) (h : i < 10), i < m.val → s.residual[i]? = some b[i]) ∧
      step s = .next { s with
        fn := m
        fb := b
        drain := false
        phase := .decoding
        residual := s.residual.drop m.val
        inputs := rest }

/-- IDLE waits until a read returns. R110: the block waits in IDLE with no frame presented. That waiting is a step that changes nothing is the model's form (log entry 3). -/
def Obligations.IdleWaitsForARead : Prop :=
  (∀ s : State, s.por = false → s.phase = .idle → s.inputs = [] → step s = .next s) ∧
  (∀ (s : State) (bs : List Byte) (rest : List Input),
    s.por = false → s.phase = .idle → s.inputs = .receive bs :: rest →
    step s = .next { s with residual := s.residual ++ bs, inputs := rest })

/-- A step runs the decoded command. R110, R112 for the transitions. That exec is one transition of the command in progress is the model's form (log entry 8); that withFetchWord stands for an accept of the word's canonical frame and clears a pending `por` is the model's choice (log entry 6). -/
def Obligations.StepRunsTheCommand : Prop :=
  (∀ (s : State) (i : Instr), s.por = false → s.phase = .decoding →
    decode s.cfg s.fn.val s.fb = .instr i → step s = exec i s) ∧
  (∀ (s : State) (e : DecodeError), s.por = false → s.phase = .decoding →
    decode s.cfg s.fn.val s.fb = .reject e →
    step s = .next (s.enterRejected (errOfDecode e) none)) ∧
  (∀ (s : State) (i : Instr), s.por = false → (s.phase = .resolved ∨ s.phase = .rejected) →
    s.result.command = some i → step s = exec i s) ∧
  (∀ (s : State) (i : Instr) (nbits w : Nat),
    decode s.cfg 10 (tableFrame nbits w) = .instr i →
    step (s.withFetchWord nbits w) = exec i (s.withFetchWord nbits w))

/-- The decode step latches Map(Decode(FN, FB)). R112, over the lookup of R105; t and v are R25's. Of the t kept for a frame the frame check rejects nothing is said (log entry 7). -/
def Obligations.DecodeLatchesTheMappedResult : Prop :=
  ∀ s : State, s.por = false → s.phase = .decoding →
    ∃ t' : Option Nat, (∀ t, checkFrame s.fn.val s.fb = .ok t → t' = some t) ∧ step s = .next { s with
      result := { mapped := channelMap s.cfg (rawDecode s.fn.val s.fb)
                  t := t'
                  v := (rawDecode s.fn.val s.fb).value }
      wseq := 0
      phase := if (channelMap s.cfg (rawDecode s.fn.val s.fb)).isErr then .rejected else .resolved }

/-- A write step performs the next line write. R113 with the effects of R119; R118: in order, none merged or skipped. -/
def Obligations.WriteStepPerformsTheNextWrite : Prop :=
  ∀ (s : State) (ws : List LineWrite) (w : LineWrite), s.por = false → s.phase = .resolved →
    writeSeq s.result.mapped = some ws → ws[s.wseq.toNat]? = some w →
    step s = .next { s with
      lines := match w with
        | .clearAll => 0
        | .set k => s.lines ||| (1#34 <<< k.val)
      wseq := s.wseq + 1
      out := s.out ++ [s.writeEvent w] }

/-- The write sequence of each result. R117; the line indices are R101's. -/
def Obligations.WriteSequences : Prop :=
  (∀ (g : AntennaGroup) (idx : Fin 16), ∃ rf sel : Fin 34,
    writeSeq (.select g idx) = some [.clearAll, .set rf, .set sel] ∧
    rf.val = 16 * groupIndex g + idx.val ∧ sel.val = 32 + groupIndex g) ∧
  (∀ sub, writeSeq (.config sub .clearAll) = some [.clearAll]) ∧
  (∀ sub, writeSeq (.config sub .noWrite) = some []) ∧
  (∀ e, writeSeq (.err e) = none)

/-- Resolved completion emits DIAG, sets DRAIN and returns to IDLE. R114 with R122's drain decision. What a drain leaves is DrainEmptiesTheTransport's. -/
def Obligations.ResolvedCompletion : Prop :=
  ∀ (s : State) (ws : List LineWrite), s.por = false → s.phase = .resolved →
    writeSeq s.result.mapped = some ws → s.wseq.toNat = ws.length →
    ∃ kept : List Byte, (s.result.t = some 8 → kept = s.residual) ∧ step s = .next { s with
      diag := diagOf s.result
      drain := decide (s.result.t ≠ some 8)
      wseq := 0
      phase := .idle
      residual := kept
      out := s.out ++ [.diag (diagOf s.result)] ++ (if s.result.t = some 8 then [] else [.drain]) }

/-- Rejected completion emits DIAG, drains and returns to IDLE without a write. R115, R188. What the drain leaves is DrainEmptiesTheTransport's. -/
def Obligations.RejectedCompletion : Prop :=
  ∀ s : State, s.por = false → s.phase = .rejected →
    ∃ kept : List Byte, step s = .next { s with
      diag := diagOf s.result
      drain := true
      phase := .idle
      residual := kept
      out := s.out ++ [.diag (diagOf s.result), .drain] }

/-- The diagnostic record of each result. R121, row by row; `idx + 1` is the chain number. -/
def Obligations.DiagnosticRecords : Prop :=
  ∀ (t : Option Nat) (v : Value),
  (∀ (g : AntennaGroup) (idx : Fin 16),
    diagOf { mapped := .select g idx, t := t, v := some v } =
      { outcome := 0x0, valueValid := 1, value := v, group := BitVec.ofNat 1 (groupIndex g),
        chain := BitVec.ofNat 5 (idx.val + 1), sub := 0 }) ∧
  (∀ sub, diagOf { mapped := .config sub .clearAll, t := t, v := some v } =
      { outcome := 0x1, valueValid := 1, value := v, group := 0, chain := 0, sub := sub }) ∧
  (∀ sub, diagOf { mapped := .config sub .noWrite, t := t, v := some v } =
      { outcome := 0x2, valueValid := 1, value := v, group := 0, chain := 0, sub := sub }) ∧
  (∀ u, diagOf { mapped := .err .feShortOrEmpty, t := t, v := u } =
      { outcome := 0x8, valueValid := 0, value := 0, group := 0, chain := 0, sub := 0 }) ∧
  (∀ u, diagOf { mapped := .err .feTermOutOfRange, t := t, v := u } =
      { outcome := 0x9, valueValid := 0, value := 0, group := 0, chain := 0, sub := 0 }) ∧
  (∀ u, diagOf { mapped := .err .peNonBinary, t := t, v := u } =
      { outcome := 0xA, valueValid := 0, value := 0, group := 0, chain := 0, sub := 0 }) ∧
  diagOf { mapped := .err .peBitWidth, t := t, v := some v } =
      { outcome := 0xB, valueValid := 1, value := v, group := 0, chain := 0, sub := 0 } ∧
  diagOf { mapped := .err .ueReservedGroup, t := t, v := some v } =
      { outcome := 0xC, valueValid := 1, value := v, group := 0, chain := 0, sub := 0 } ∧
  diagOf { mapped := .err .ueConfig, t := t, v := some v } =
      { outcome := 0xD, valueValid := 1, value := v, group := 0, chain := 0, sub := v.setWidth 6 }

/-- Frames written out from the spec decode to their commands. The vectors V-S1, P1, V-C1, V-C4, V-R2, V-R3, V-P5, V-P7, V-P9 of spec/95. -/
def Obligations.FramesDecodeByTheTable : Prop :=
  decode Config.default 10 #v[0x31, 0x31, 0x30, 0x30, 0x30, 0x30, 0x30, 0x30, 0x0D, 0x0A] = .instr .selEms1 ∧
  decode Config.default 10 #v[0x31, 0x31, 0x30, 0x31, 0x30, 0x31, 0x30, 0x30, 0x0D, 0x0A] = .instr .selDfs5 ∧
  decode Config.default 10 #v[0x31, 0x30, 0x30, 0x30, 0x30, 0x30, 0x30, 0x30, 0x0D, 0x0A] = .instr .sleep ∧
  decode Config.default 10 #v[0x31, 0x30, 0x30, 0x31, 0x30, 0x30, 0x30, 0x30, 0x0D, 0x0A] = .instr (.cfgUnknown 0x10) ∧
  decode Config.default 10 #v[0x31, 0x31, 0x31, 0x30, 0x31, 0x31, 0x31, 0x31, 0x0D, 0x0A] = .instr (.rsvGrp2 0xF) ∧
  decode Config.default 10 #v[0x31, 0x31, 0x31, 0x31, 0x30, 0x30, 0x30, 0x30, 0x0D, 0x0A] = .instr (.rsvGrp3 0x0) ∧
  decode Config.default 10 #v[0x30, 0x31, 0x30, 0x30, 0x30, 0x30, 0x30, 0x30, 0x0D, 0x0A] = .instr (.noSentinel 0x40) ∧
  decode Config.default 10 #v[0x31, 0x31, 0x30, 0x30, 0x30, 0x30, 0x30, 0x30, 0x31, 0x0D] = .instr (.overWide 0x81) ∧
  decode Config.default 10 #v[0x30, 0x31, 0x31, 0x30, 0x30, 0x30, 0x30, 0x30, 0x30, 0x0D] = .instr .selEms1

/-- Decode of encode is the command. R71 against R94 and R67. -/
def Obligations.DecodeOfEncode : Prop :=
  ∀ (k : Config) (i : Instr), i.wf k = true → decode k 10 (encode i) = .instr i

/-- What decodes is a well-formed command that spells the parsed value. R67's rows do not overlap and keep the value. -/
def Obligations.DecodedCommandsAreWellFormed : Prop :=
  ∀ (k : Config) (n : Fin 11) (b : Frame) (i : Instr), decode k n.val b = .instr i →
    i.wf k = true ∧ n = 10 ∧ (rawDecode n.val b).value = some i.value

/-- The opcode map of all values. R67: the opcode map, one clause a row; the outcomes of the rows are the meanings' own statements. -/
def Obligations.OpcodeMap : Prop :=
  ∀ (k : Config) (v : Value),
    (v.toNat ≤ 0x7F → decode k 10 (frameOf v) = .instr (.noSentinel (v.setWidth 7))) ∧
    (v.toNat = 0x80 → decode k 10 (frameOf v) = .instr .sleep) ∧
    (0x81 ≤ v.toNat ∧ v.toNat ≤ 0xBF → (k.action (v.setWidth 6)).isSome = true →
      decode k 10 (frameOf v) = .instr (.cfg (v.setWidth 6))) ∧
    (0x81 ≤ v.toNat ∧ v.toNat ≤ 0xBF → k.action (v.setWidth 6) = none →
      decode k 10 (frameOf v) = .instr (.cfgUnknown (v.setWidth 6))) ∧
    (0xC0 ≤ v.toNat ∧ v.toNat ≤ 0xCF →
      decode k 10 (frameOf v) = .instr (selInstr .ems (v.setWidth 4).toFin)) ∧
    (0xD0 ≤ v.toNat ∧ v.toNat ≤ 0xDF →
      decode k 10 (frameOf v) = .instr (selInstr .dfs (v.setWidth 4).toFin)) ∧
    (0xE0 ≤ v.toNat ∧ v.toNat ≤ 0xEF → decode k 10 (frameOf v) = .instr (.rsvGrp2 (v.setWidth 4))) ∧
    (0xF0 ≤ v.toNat ∧ v.toNat ≤ 0xFF → decode k 10 (frameOf v) = .instr (.rsvGrp3 (v.setWidth 4))) ∧
    (0x100 ≤ v.toNat → decode k 10 (frameOf v) = .instr (.overWide (v.setWidth 8)))

/-- Short reads, missing or leading terminators and non-binary tokens are no commands. R82, R84, R86 in terms of the bytes; the order of the checks is R81's. -/
def Obligations.FrameErrors : Prop :=
  (∀ (n : Nat) (b : Frame), n < 10 → rawDecode n b = .frameErr .shortOrEmpty) ∧
  (∀ b : Frame, (∀ (i : Nat) (h : i < 10), b[i] ≠ 0x0D ∧ b[i] ≠ 0x0A) →
    rawDecode 10 b = .frameErr .termOutOfRange) ∧
  (∀ b : Frame, (b[0] = 0x0D ∨ b[0] = 0x0A) → rawDecode 10 b = .frameErr .termOutOfRange) ∧
  (∀ b : Frame, (∃ (i : Nat) (h : i < 10), b[i] = 0x0D ∨ b[i] = 0x0A) →
    b[0] ≠ 0x0D → b[0] ≠ 0x0A → b[0] ≠ 0x30 → b[0] ≠ 0x31 →
    rawDecode 10 b = .parseErr .nonBinary none)

/-- The token is the bytes before the first terminator. R83, with R84's accepted range; either byte counts (D5). -/
def Obligations.TokenEndsAtTheFirstTerminator : Prop :=
  (∀ (b : Frame) (t : Nat) (ht : t < 10), 1 ≤ t → (b[t] = 0x0D ∨ b[t] = 0x0A) →
    (∀ (i : Nat) (hi : i < t), b[i] ≠ 0x0D ∧ b[i] ≠ 0x0A) →
    firstTerminator b = some t ∧ checkFrame 10 b = .ok t ∧ (tokenOf t b).length = t ∧
      ∀ (i : Nat) (hi : i < t), (tokenOf t b)[i]? = some b[i]) ∧
  (∀ b : Frame, (b[0] = 0x0D ∨ b[0] = 0x0A) → firstTerminator b = some 0) ∧
  (∀ b : Frame, (∀ (i : Nat) (h : i < 10), b[i] ≠ 0x0D ∧ b[i] ≠ 0x0A) → firstTerminator b = none)

/-- The parsed value is the base-2 sum of the digit prefix. R87 (the prefix rule is D6's). -/
def Obligations.ParsedValueIsTheDigitSum : Prop :=
  ∀ (b : Frame) (t k : Nat), checkFrame 10 b = .ok t → 1 ≤ k → k ≤ t →
    (∀ j, j < k → b.toList.getD j 0 = 0x30 ∨ b.toList.getD j 0 = 0x31) →
    (k = t ∨ (b.toList.getD k 0 ≠ 0x30 ∧ b.toList.getD k 0 ≠ 0x31)) →
    (∑ j ∈ Finset.range k, ((b.toList.getD j 0).toNat - 0x30) * 2 ^ (k - 1 - j)) ≤ 511 ∧
    (rawDecode 10 b).value =
      some (BitVec.ofNat 9 (∑ j ∈ Finset.range k, ((b.toList.getD j 0).toNat - 0x30) * 2 ^ (k - 1 - j)))

/-- Bit width, sentinel and bit 6 classify the value. R89, R90; that a value 0 reports BIT_WIDTH is D7's. -/
def Obligations.WidthAndSentinelDecideTheCategory : Prop :=
  ∀ v t : Nat, v ≤ 511 →
    ((v > 255 ∨ v / 128 % 2 = 0) → classifyValue v t = .parseErr .bitWidth (some (BitVec.ofNat 9 v))) ∧
    (128 ≤ v ∧ v ≤ 191 → classifyValue v t = .cfgRaw (BitVec.ofNat 8 v) t) ∧
    (192 ≤ v ∧ v ≤ 255 → classifyValue v t = .selRaw (BitVec.ofNat 8 v) t)

/-- No byte at or after the first terminator matters. R85. -/
def Obligations.BytesFromTheTerminatorOnAreIgnored : Prop :=
  ∀ (k : Config) (b b' : Frame) (t : Nat), checkFrame 10 b = .ok t → checkFrame 10 b' = .ok t →
    (∀ (j : Nat) (h : j < 10), j < t → b[j] = b'[j]) →
    rawDecode 10 b = rawDecode 10 b' ∧ decode k 10 b = decode k 10 b' ∧ resultOf k 10 b = resultOf k 10 b'

/-- Short, nine-digit and leading-zero tokens. R95 (a), (b), (c). -/
def Obligations.TokenLengthCorners : Prop :=
  (∀ (b : Frame) (t : Nat), checkFrame 10 b = .ok t → t ≤ 7 → (b[0] = 0x30 ∨ b[0] = 0x31) →
    ∃ v : Value, v.toNat ≤ 127 ∧ rawDecode 10 b = .parseErr .bitWidth (some v)) ∧
  (∀ b : Frame, checkFrame 10 b = .ok 9 → b[0] = 0x31 →
    (∀ (j : Nat) (h : j < 9), b[j] = 0x30 ∨ b[j] = 0x31) →
    ∃ v : Value, 256 ≤ v.toNat ∧ rawDecode 10 b = .parseErr .bitWidth (some v)) ∧
  (∀ b b' : Frame, checkFrame 10 b = .ok 9 → checkFrame 10 b' = .ok 8 → b[0] = 0x30 →
    (∀ (j : Nat) (h : j < 8), (b'[j] = 0x30 ∨ b'[j] = 0x31) ∧ b[j + 1] = b'[j]) →
    match rawDecode 10 b' with
    | .selRaw op _ => rawDecode 10 b = .selRaw op 9
    | .cfgRaw op _ => rawDecode 10 b = .cfgRaw op 9
    | .parseErr r v => rawDecode 10 b = .parseErr r v
    | .frameErr _ => False)

/-- The ChannelMap lookup by bit fields. R105 (R101, R102, R103 collected); the values kept for DIAG are in DecodeLatchesTheMappedResult. -/
def Obligations.ChannelMapLookup : Prop :=
  ∀ (k : Config) (op : Opcode) (t : Nat),
    (op.getLsbD 5 = false → op.getLsbD 4 = false →
      channelMap k (.selRaw op t) = .select .ems (op.setWidth 4).toFin) ∧
    (op.getLsbD 5 = false → op.getLsbD 4 = true →
      channelMap k (.selRaw op t) = .select .dfs (op.setWidth 4).toFin) ∧
    (op.getLsbD 5 = true → channelMap k (.selRaw op t) = .err .ueReservedGroup) ∧
    (∀ act, k.action (op.setWidth 6) = some act →
      channelMap k (.cfgRaw op t) = .config (op.setWidth 6) act) ∧
    (k.action (op.setWidth 6) = none → channelMap k (.cfgRaw op t) = .err .ueConfig) ∧
    k.action 0 = some .clearAll ∧
    channelMap k (.frameErr .shortOrEmpty) = .err .feShortOrEmpty ∧
    channelMap k (.frameErr .termOutOfRange) = .err .feTermOutOfRange ∧
    (∀ v, channelMap k (.parseErr .nonBinary v) = .err .peNonBinary) ∧
    (∀ v, channelMap k (.parseErr .bitWidth v) = .err .peBitWidth) ∧
    (op.getLsbD 5 = false → ∀ g : AntennaGroup, (op.getLsbD 4 = true ↔ g = .dfs) →
      (rfLine g (op.setWidth 4).toFin).val = (op.setWidth 5).toNat ∧
      (selLine g).val = 32 + (if op.getLsbD 4 then 1 else 0))

/-- No two Selections share an RF line. R106, R26. -/
def Obligations.RfLinesAreDistinct : Prop :=
  (∀ (g g' : AntennaGroup) (idx idx' : Fin 16), rfLine g idx = rfLine g' idx' → g = g' ∧ idx = idx') ∧
  (∀ (g : AntennaGroup) (idx : Fin 16), (rfLine g idx).val = 16 * groupIndex g + idx.val ∧ (rfLine g idx).val < 32) ∧
  (∀ g : AntennaGroup, (selLine g).val = 32 + groupIndex g)

/-- Reserved and unrecognised codes are Rejected, never a silent default. R104: an explicit rejection. -/
def Obligations.UnknownCodesAreRejectedExplicitly : Prop :=
  ∀ (s : State) (op : Opcode) (t : Nat), s.por = false → s.phase = .decoding →
    ((rawDecode s.fn.val s.fb = .selRaw op t ∧ op.getLsbD 5 = true) ∨
     (rawDecode s.fn.val s.fb = .cfgRaw op t ∧ s.cfg.action (op.setWidth 6) = none)) →
    ∃ u, step s = .next u ∧ u.phase = .rejected ∧ u.lines = s.lines ∧ u.writes = s.writes ∧
      u.result.v = some (op.setWidth 9) ∧
      u.result.mapped = .err (if op.getLsbD 6 then .ueReservedGroup else .ueConfig)

/-- SEL EMS,1 to SEL EMS,8: encoding, transitions and end state. R131 to R138: constructors selEms1, selEms2, selEms3, selEms4, selEms5, selEms6, selEms7, selEms8. -/
def Obligations.SelEms1To8 : Prop :=
  SelRow .selEms1 .ems 0 1 0xC0 #v[0x31, 0x31, 0x30, 0x30, 0x30, 0x30, 0x30, 0x30, 0x0D, 0x0A] 0 32 0x100000001 ∧
  SelRow .selEms2 .ems 1 2 0xC1 #v[0x31, 0x31, 0x30, 0x30, 0x30, 0x30, 0x30, 0x31, 0x0D, 0x0A] 1 32 0x100000002 ∧
  SelRow .selEms3 .ems 2 3 0xC2 #v[0x31, 0x31, 0x30, 0x30, 0x30, 0x30, 0x31, 0x30, 0x0D, 0x0A] 2 32 0x100000004 ∧
  SelRow .selEms4 .ems 3 4 0xC3 #v[0x31, 0x31, 0x30, 0x30, 0x30, 0x30, 0x31, 0x31, 0x0D, 0x0A] 3 32 0x100000008 ∧
  SelRow .selEms5 .ems 4 5 0xC4 #v[0x31, 0x31, 0x30, 0x30, 0x30, 0x31, 0x30, 0x30, 0x0D, 0x0A] 4 32 0x100000010 ∧
  SelRow .selEms6 .ems 5 6 0xC5 #v[0x31, 0x31, 0x30, 0x30, 0x30, 0x31, 0x30, 0x31, 0x0D, 0x0A] 5 32 0x100000020 ∧
  SelRow .selEms7 .ems 6 7 0xC6 #v[0x31, 0x31, 0x30, 0x30, 0x30, 0x31, 0x31, 0x30, 0x0D, 0x0A] 6 32 0x100000040 ∧
  SelRow .selEms8 .ems 7 8 0xC7 #v[0x31, 0x31, 0x30, 0x30, 0x30, 0x31, 0x31, 0x31, 0x0D, 0x0A] 7 32 0x100000080

/-- SEL EMS,9 to SEL EMS,16: encoding, transitions and end state. R139 to R146: constructors selEms9, selEms10, selEms11, selEms12, selEms13, selEms14, selEms15, selEms16. -/
def Obligations.SelEms9To16 : Prop :=
  SelRow .selEms9 .ems 8 9 0xC8 #v[0x31, 0x31, 0x30, 0x30, 0x31, 0x30, 0x30, 0x30, 0x0D, 0x0A] 8 32 0x100000100 ∧
  SelRow .selEms10 .ems 9 10 0xC9 #v[0x31, 0x31, 0x30, 0x30, 0x31, 0x30, 0x30, 0x31, 0x0D, 0x0A] 9 32 0x100000200 ∧
  SelRow .selEms11 .ems 10 11 0xCA #v[0x31, 0x31, 0x30, 0x30, 0x31, 0x30, 0x31, 0x30, 0x0D, 0x0A] 10 32 0x100000400 ∧
  SelRow .selEms12 .ems 11 12 0xCB #v[0x31, 0x31, 0x30, 0x30, 0x31, 0x30, 0x31, 0x31, 0x0D, 0x0A] 11 32 0x100000800 ∧
  SelRow .selEms13 .ems 12 13 0xCC #v[0x31, 0x31, 0x30, 0x30, 0x31, 0x31, 0x30, 0x30, 0x0D, 0x0A] 12 32 0x100001000 ∧
  SelRow .selEms14 .ems 13 14 0xCD #v[0x31, 0x31, 0x30, 0x30, 0x31, 0x31, 0x30, 0x31, 0x0D, 0x0A] 13 32 0x100002000 ∧
  SelRow .selEms15 .ems 14 15 0xCE #v[0x31, 0x31, 0x30, 0x30, 0x31, 0x31, 0x31, 0x30, 0x0D, 0x0A] 14 32 0x100004000 ∧
  SelRow .selEms16 .ems 15 16 0xCF #v[0x31, 0x31, 0x30, 0x30, 0x31, 0x31, 0x31, 0x31, 0x0D, 0x0A] 15 32 0x100008000

/-- SEL DFS,1 to SEL DFS,8: encoding, transitions and end state. R147 to R154: constructors selDfs1, selDfs2, selDfs3, selDfs4, selDfs5, selDfs6, selDfs7, selDfs8. -/
def Obligations.SelDfs1To8 : Prop :=
  SelRow .selDfs1 .dfs 0 1 0xD0 #v[0x31, 0x31, 0x30, 0x31, 0x30, 0x30, 0x30, 0x30, 0x0D, 0x0A] 16 33 0x200010000 ∧
  SelRow .selDfs2 .dfs 1 2 0xD1 #v[0x31, 0x31, 0x30, 0x31, 0x30, 0x30, 0x30, 0x31, 0x0D, 0x0A] 17 33 0x200020000 ∧
  SelRow .selDfs3 .dfs 2 3 0xD2 #v[0x31, 0x31, 0x30, 0x31, 0x30, 0x30, 0x31, 0x30, 0x0D, 0x0A] 18 33 0x200040000 ∧
  SelRow .selDfs4 .dfs 3 4 0xD3 #v[0x31, 0x31, 0x30, 0x31, 0x30, 0x30, 0x31, 0x31, 0x0D, 0x0A] 19 33 0x200080000 ∧
  SelRow .selDfs5 .dfs 4 5 0xD4 #v[0x31, 0x31, 0x30, 0x31, 0x30, 0x31, 0x30, 0x30, 0x0D, 0x0A] 20 33 0x200100000 ∧
  SelRow .selDfs6 .dfs 5 6 0xD5 #v[0x31, 0x31, 0x30, 0x31, 0x30, 0x31, 0x30, 0x31, 0x0D, 0x0A] 21 33 0x200200000 ∧
  SelRow .selDfs7 .dfs 6 7 0xD6 #v[0x31, 0x31, 0x30, 0x31, 0x30, 0x31, 0x31, 0x30, 0x0D, 0x0A] 22 33 0x200400000 ∧
  SelRow .selDfs8 .dfs 7 8 0xD7 #v[0x31, 0x31, 0x30, 0x31, 0x30, 0x31, 0x31, 0x31, 0x0D, 0x0A] 23 33 0x200800000

/-- SEL DFS,9 to SEL DFS,16: encoding, transitions and end state. R155 to R162: constructors selDfs9, selDfs10, selDfs11, selDfs12, selDfs13, selDfs14, selDfs15, selDfs16. -/
def Obligations.SelDfs9To16 : Prop :=
  SelRow .selDfs9 .dfs 8 9 0xD8 #v[0x31, 0x31, 0x30, 0x31, 0x31, 0x30, 0x30, 0x30, 0x0D, 0x0A] 24 33 0x201000000 ∧
  SelRow .selDfs10 .dfs 9 10 0xD9 #v[0x31, 0x31, 0x30, 0x31, 0x31, 0x30, 0x30, 0x31, 0x0D, 0x0A] 25 33 0x202000000 ∧
  SelRow .selDfs11 .dfs 10 11 0xDA #v[0x31, 0x31, 0x30, 0x31, 0x31, 0x30, 0x31, 0x30, 0x0D, 0x0A] 26 33 0x204000000 ∧
  SelRow .selDfs12 .dfs 11 12 0xDB #v[0x31, 0x31, 0x30, 0x31, 0x31, 0x30, 0x31, 0x31, 0x0D, 0x0A] 27 33 0x208000000 ∧
  SelRow .selDfs13 .dfs 12 13 0xDC #v[0x31, 0x31, 0x30, 0x31, 0x31, 0x31, 0x30, 0x30, 0x0D, 0x0A] 28 33 0x210000000 ∧
  SelRow .selDfs14 .dfs 13 14 0xDD #v[0x31, 0x31, 0x30, 0x31, 0x31, 0x31, 0x30, 0x31, 0x0D, 0x0A] 29 33 0x220000000 ∧
  SelRow .selDfs15 .dfs 14 15 0xDE #v[0x31, 0x31, 0x30, 0x31, 0x31, 0x31, 0x31, 0x30, 0x0D, 0x0A] 30 33 0x240000000 ∧
  SelRow .selDfs16 .dfs 15 16 0xDF #v[0x31, 0x31, 0x30, 0x31, 0x31, 0x31, 0x31, 0x31, 0x0D, 0x0A] 31 33 0x280000000

/-- SLEEP clears all lines. R170: constructor sleep. -/
def Obligations.SleepClearsAllLines : Prop :=
  (∀ k : Config, k.action 0 = some .clearAll) ∧
  encode .sleep = #v[0x31, 0x30, 0x30, 0x30, 0x30, 0x30, 0x30, 0x30, 0x0D, 0x0A] ∧
  (∀ k : Config, decode k 10 #v[0x31, 0x30, 0x30, 0x30, 0x30, 0x30, 0x30, 0x30, 0x0D, 0x0A] = .instr .sleep) ∧
  ConfigRow .sleep 0 .clearAll 0x80

/-- CFG performs its CFG_ACTION. R171: constructor cfg, every sub-opcode, both actions. -/
def Obligations.RecognisedConfigActs : Prop :=
  ∀ (sub : SubOp) (act : CfgAction), sub ≠ 0 → ConfigRow (.cfg sub) sub act (0x80 + sub.setWidth 9)

/-- CFG_UNKNOWN is rejected as UE_CONFIG. R172: constructor cfgUnknown. -/
def Obligations.UnrecognisedConfigIsRejected : Prop :=
  ∀ sub : SubOp, RejectRow (.cfgUnknown sub) .ueConfig (0x80 + sub.setWidth 9) sub

/-- RSV_GRP2 and RSV_GRP3 are rejected as UE_RESERVED_GROUP. R173, R174: constructors rsvGrp2, rsvGrp3. -/
def Obligations.ReservedGroupsAreRejected : Prop :=
  ∀ idx : BitVec 4,
    RejectRow (.rsvGrp2 idx) .ueReservedGroup (0xE0 + idx.setWidth 9) 0 ∧
    RejectRow (.rsvGrp3 idx) .ueReservedGroup (0xF0 + idx.setWidth 9) 0

/-- NO_SENTINEL and OVER_WIDE are rejected as PE_BIT_WIDTH. R175, R176: constructors noSentinel, overWide. -/
def Obligations.BadWidthsAreRejected : Prop :=
  (∀ v : BitVec 7, RejectRow (.noSentinel v) .peBitWidth (v.setWidth 9) 0) ∧
  (∀ v : BitVec 8, RejectRow (.overWide v) .peBitWidth (0x100 + v.setWidth 9) 0)

/-- A frame that is no command ends Rejected with no value. R182, R183 (non-binary), R186, R188. That the transport drains in the completion step is the model's choice (log entry 3), and that RESULT keeps no t for a frame the frame check rejects, a terminator at index 0 included, is the model's inference (log entry 7). -/
def Obligations.FrameErrorCycle : Prop :=
  ∀ (s : State) (e : DecodeError), s.por = false → s.phase = .decoding →
    decode s.cfg s.fn.val s.fb = .reject e →
    s.Runs 2 { s with
      phase := .idle
      wseq := 0
      result := { mapped := .err (errOfDecode e), t := s.term, v := none }
      diag := { outcome := errCode (errOfDecode e), valueValid := 0, value := 0, group := 0, chain := 0, sub := 0 }
      drain := true
      residual := []
      out := s.out ++
        [.diag { outcome := errCode (errOfDecode e), valueValid := 0, value := 0, group := 0, chain := 0, sub := 0 }, .drain] }

/-- A read of fewer than ten bytes is short or empty and drains. R219, with R82, R122 and R55. That the transport drains in the completion step is the model's choice (log entry 3). -/
def Obligations.SplitFrameIsLost : Prop :=
  ∀ (s : State) (n : Fin 11) (pad : Frame) (rest : List Input),
    s.por = false → s.phase = .idle → s.inputs = .read n pad :: rest →
    min n.val s.residual.length < 10 →
    ∃ t, s.Runs 3 t ∧ t.phase = .idle ∧ t.lines = s.lines ∧ t.writes = s.writes ∧
      t.diag.outcome = 0x8 ∧ t.diag.valueValid = 0 ∧ t.drain = true ∧ t.residual = [] ∧ t.inputs = rest

/-- The steps of a cycle compose to Cycle(LINES, n, b). R123: one cycle as a function, equivalent to R111 to R122 run from IDLE to IDLE. That a presented read is an entry of `inputs` and reports no more bytes than are held is the model's form (log entry 3). -/
def Obligations.CycleIsTheComposition : Prop :=
  ∀ (s : State) (n : Fin 11) (pad : Frame) (rest : List Input),
    s.por = false → s.phase = .idle → s.inputs = .read n pad :: rest →
    ∃ (steps : Nat) (t : State), s.Runs steps t ∧ 3 ≤ steps ∧ steps ≤ 6 ∧ t.phase = .idle ∧ t.wseq = 0 ∧
      t.fn.val = min n.val s.residual.length ∧
      (∀ (i : Nat) (h : i < 10), i < t.fn.val → s.residual[i]? = some t.fb[i]) ∧
      (t.lines, t.diag, t.drain) = cycle s.cfg s.lines t.fn.val t.fb ∧
      t.diagCount = s.diagCount + 1 ∧ t.inputs = rest

/-- The whole state at the end of a cycle. R112 to R115 composed; every field of the state. That the transport drains in the completion step (log entry 3) and the t of a rejected frame (log entry 7) are the model's. -/
def Obligations.CycleEndState : Prop :=
  ∀ s : State, s.por = false → s.phase = .decoding →
    s.Runs (cycleSteps (channelMap s.cfg (rawDecode s.fn.val s.fb))) s.afterCycle

/-- Every cycle reaches IDLE within five steps of DECODING. R129: the bound, and that a step is enabled in every state that meets the sequencing invariant. -/
def Obligations.EveryCycleEnds : Prop :=
  (∀ s : State, s.por = false → s.phase = .decoding →
    ∃ (steps : Nat) (t : State), steps ≤ 5 ∧ s.Runs steps t ∧ t.phase = .idle) ∧
  (∀ s : State, s.Sequenced → s.por = false → ∃ t, step s = .next t)

/-- Every step keeps the sequencing invariant. R22, R23, R112, R186. The latched clause equates all of RESULT, so it also holds the t of a frame the frame check rejects to none, which is the model's inference (log entry 7). -/
def Obligations.SequencingIsKept : Prop :=
  ∀ s t : State, s.Sequenced → step s = .next t → t.Sequenced

/-- Every step keeps the exclusion invariant. R124 with R214's launch premise; nothing is claimed of EXCL inside a write sequence (R47). -/
def Obligations.ExclusionIsKept : Prop :=
  ∀ s t : State, s.Exclusive → step s = .next t → t.Exclusive

/-- A cycle that starts exclusive ends exclusive. R124, R29. -/
def Obligations.ExclusionAtCycleEnds : Prop :=
  ∀ s : State, s.por = false → s.phase = .decoding →
    ∃ (steps : Nat) (t : State), steps ≤ 5 ∧ s.Runs steps t ∧ t.phase = .idle ∧
      (excl s.lines = true → excl t.lines = true) ∧
      (t.diag.outcome = 0x0 ∨ t.diag.outcome = 0x1 → excl t.lines = true)

/-- A Selection asserts exactly its RF line and its select line. R125: every other line of either group is 0. -/
def Obligations.SelectionAssertsExactlyItsLines : Prop :=
  ∀ (s : State) (g : AntennaGroup) (idx : Fin 16), s.por = false → s.phase = .decoding →
    channelMap s.cfg (rawDecode s.fn.val s.fb) = .select g idx →
    ∃ t : State, s.Runs 5 t ∧ t.phase = .idle ∧
      ∀ j : Nat, j < 34 →
        (t.lines.getLsbD j = true ↔ j = 16 * groupIndex g + idx.val ∨ j = 32 + groupIndex g)

/-- Repeating a command leaves the lines as once. R126, R52. The second run starts where R111 leaves the block when the same read is latched again. -/
def Obligations.CyclesAreIdempotent : Prop :=
  (∀ s : State, s.por = false → s.phase = .decoding →
    ∃ t u : State,
      s.Runs (cycleSteps (channelMap s.cfg (rawDecode s.fn.val s.fb))) t ∧ t.phase = .idle ∧
      (t.accept s.fn s.fb).Runs (cycleSteps (channelMap s.cfg (rawDecode s.fn.val s.fb))) u ∧ u.phase = .idle ∧
      u.lines = t.lines ∧ u.diag = t.diag ∧ u.drain = t.drain) ∧
  (∀ (s s' : State) (m : Mapped), s.por = false → s'.por = false → s.phase = .decoding → s'.phase = .decoding →
    channelMap s.cfg (rawDecode s.fn.val s.fb) = m → channelMap s'.cfg (rawDecode s'.fn.val s'.fb) = m →
    ((∃ g idx, m = .select g idx) ∨ (∃ sub, m = .config sub .clearAll)) →
    ∃ t t' : State, s.Runs (cycleSteps m) t ∧ s'.Runs (cycleSteps m) t' ∧
      t.phase = .idle ∧ t'.phase = .idle ∧ t.lines = t'.lines)

/-- A Rejected cycle writes no line. R120, R187: every error is found before the first write. -/
def Obligations.RejectedCycleWritesNoLine : Prop :=
  ∀ (s : State) (e : ErrOutcome), s.por = false → s.phase = .decoding →
    channelMap s.cfg (rawDecode s.fn.val s.fb) = .err e →
    ∃ u t : State, s.Runs 1 u ∧ u.phase = .rejected ∧ u.lines = s.lines ∧ u.writes = s.writes ∧
      s.Runs 2 t ∧ t.phase = .idle ∧ t.lines = s.lines ∧ t.writes = s.writes ∧ t.drain = true ∧
      t.diag.outcome = errCode e

/-- What the transport offers has no effect during a cycle. R128. -/
def Obligations.NoFrameIsAcceptedDuringACycle : Prop :=
  ∀ s t : State, s.phase ≠ .idle → step s = .next t →
    t.inputs = s.inputs ∧ t.fn = s.fn ∧ t.fb = s.fb ∧
    (t.residual = s.residual ∨ (t.phase = .idle ∧ t.drain = true)) ∧
    ∀ xs : List Input, step { s with inputs := xs } = .next { t with inputs := xs }

/-- Only the arbiter's line write changes LINES. R28: a single writer. -/
def Obligations.OnlyALineWriteChangesLines : Prop :=
  ∀ s t : State, s.por = false → step s = .next t → t.lines ≠ s.lines →
    s.phase = .resolved ∧ ∃ ws w, writeSeq s.result.mapped = some ws ∧ ws[s.wseq.toNat]? = some w ∧
      t.lines = w.apply s.lines ∧ t.out = s.out ++ [s.writeEvent w]

/-- LINES are the writes issued so far applied to the reset value. R49: sequential consistency with a single writer. The history is the model's record of the port (log entry 5). -/
def Obligations.LinesReplayTheWrites : Prop :=
  ∀ s t : State, s.Replayed → step s = .next t → t.Replayed

/-- No step changes the parameters. R34. -/
def Obligations.ParametersAreConstant : Prop :=
  ∀ s t : State, step s = .next t → t.cfg = s.cfg

/-- A record is emitted exactly at the end of a cycle. R121, R116. -/
def Obligations.OneRecordPerCycle : Prop :=
  ∀ s t : State, s.por = false → step s = .next t →
    t.diagCount = s.diagCount + (if s.phase ≠ .idle ∧ t.phase = .idle then 1 else 0) ∧
    (t.diag ≠ s.diag → s.phase ≠ .idle ∧ t.phase = .idle ∧ t.diag = diagOf s.result)

/-- Only listed outcome codes are ever emitted. R181: codes 0x3..0x7 and 0xE..0xF are never produced. -/
def Obligations.OutcomeCodesAreListed : Prop :=
  (∀ s t : State, s.CodesListed → step s = .next t → t.CodesListed) ∧
  (∀ r : Result, (diagOf r).outcome.getLsbD 3 = true ↔ ∃ e, r.mapped = .err e)

/-- DRAIN at the end of a cycle. R122. -/
def Obligations.DrainDecision : Prop :=
  ∀ s t : State, s.por = false → s.phase ≠ .idle → step s = .next t → t.phase = .idle →
    (t.drain = true ↔ s.phase = .rejected ∨ s.result.t ≠ some 8)

/-- What DRAIN does to the transport, and when it changes. R55, R31, R218. That the transport drains in the completion step is the model's choice (log entry 3). -/
def Obligations.DrainEmptiesTheTransport : Prop :=
  (∀ s t : State, s.por = false → s.phase ≠ .idle → step s = .next t → t.phase = .idle →
    t.residual = if t.drain then [] else s.residual) ∧
  (∀ s t : State, s.phase ≠ .idle → step s = .next t → t.phase ≠ .idle → t.residual = s.residual) ∧
  (∀ s t : State, s.por = false → step s = .next t → t.drain ≠ s.drain →
    (t.phase = .idle ∧ s.phase ≠ .idle) ∨ (s.phase = .idle ∧ t.phase = .decoding ∧ t.drain = false))

/-- No step refuses or faults but for a reset once a cycle runs. R188: none halts the control loop. -/
def Obligations.StepsNeverRefuseACommand : Prop :=
  (∀ (s : State) (r : Refusal), s.por = false → step s ≠ .refused r) ∧
  (∀ (s : State) (f : Fault), s.Sequenced → step s ≠ .fault f) ∧
  (∀ (s : State) (f : Fault), step s = .fault f → s.phase = .resolved)

/-- What every command leaves unchanged. The frame of R112 to R115, for all 39 constructors. -/
def Obligations.CommandFrame : Prop :=
  ∀ (i : Instr) (s t : State), exec i s = .next t →
    t.cfg = s.cfg ∧ t.fn = s.fn ∧ t.fb = s.fb ∧ t.por = s.por ∧ t.inputs = s.inputs ∧
    ((s.phase = .decoding ∧ t = { s with result := t.result, wseq := 0, phase := t.phase } ∧
        (t.phase = .resolved ∨ t.phase = .rejected)) ∨
     (s.phase = .resolved ∧ t.phase = .resolved ∧
        t = { s with lines := t.lines, wseq := s.wseq + 1, out := t.out }) ∨
     ((s.phase = .resolved ∨ s.phase = .rejected) ∧ t.phase = .idle ∧ t.lines = s.lines ∧
        t.result = s.result ∧ t.writes = s.writes ∧ (s.phase = .rejected → t.wseq = s.wseq)))

/-- What one line write does to each line. R119, R52. -/
def Obligations.LineWriteEffects : Prop :=
  (∀ (x : LineLevels) (j : Nat), (LineWrite.clearAll.apply x).getLsbD j = false) ∧
  (∀ (x : LineLevels) (k : Fin 34) (j : Nat),
    ((LineWrite.set k).apply x).getLsbD j = (x.getLsbD j || j == k.val)) ∧
  (∀ (w : LineWrite) (x : LineLevels), w.apply (w.apply x) = w.apply x)

/-- Physical addresses of the line writes. R43, R44. R9's constraint on LINE_ADDR is part of Config, so no parameters are shut out. -/
def Obligations.PhysicalAddresses : Prop :=
  ∀ k : Config,
    (∀ i : Fin 34, (LineWrite.set i).addrs k = [k.lineAddr[i]] ∧ 1 ≤ k.lineAddr[i].channel) ∧
    (∀ i j : Fin 34, k.lineAddr[i] = k.lineAddr[j] → i = j) ∧
    (∀ a : LineAddr, a ∈ LineWrite.clearAll.addrs k ↔
      a.channel = 0 ∧ ∃ i : Fin 34, k.lineAddr[i].slot = a.slot)

/-- The invariants hold at reset. R35, R214. INIT_LINES = 0 is the spec's decision D14. -/
def Obligations.ResetMeetsTheInvariants : Prop :=
  State.reset.Sequenced ∧ State.reset.Replayed ∧ State.reset.CodesListed ∧ State.reset.Exclusive ∧
  (∀ k : Config, excl k.initLines = true → (State.resetWith k).Exclusive)
end

