-- ==== Sys2Proof/Laws/Config.lean ====
section
/-! SUPPORT. What R9's constraints on the parameters give. -/

namespace Sys2Proof

/-- Sleep is recognised and clears, whatever the parameters. -/
@[simp] theorem Config.action_zero (k : Config) : k.action 0 = some .clearAll := rfl

/-- No line is at channel 0. -/
theorem Config.one_le_channel (k : Config) (i : Fin 34) : 1 ≤ k.lineAddr[i].channel := by
  have h := k.addrOk
  simp only [lineAddrOk, Bool.and_eq_true, List.all_eq_true, decide_eq_true_eq] at h
  exact h.2 _ (by simp)

/-- LINE_ADDR is injective. -/
theorem Config.lineAddr_inj (k : Config) {i j : Fin 34} (h : k.lineAddr[i] = k.lineAddr[j]) : i = j := by
  have hk := k.addrOk
  simp only [lineAddrOk, Bool.and_eq_true, decide_eq_true_eq] at hk
  have := (List.Nodup.getElem_inj_iff hk.1 (i := i.val) (hi := by simp) (j := j.val) (hj := by simp)).mp
    (by simpa using h)
  exact Fin.ext this

end Sys2Proof
end

