-- ==== Sys2Proof/Laws/Decode.lean ====
section
/-! SUPPORT. The frame check, the parse and the tables, each said once. -/

namespace Sys2Proof

/-! ## The frame check (R82, R84) -/

theorem checkFrame_eq_ok {n t : Nat} {b : Frame} :
    checkFrame n b = .ok t ↔ ¬ n < 10 ∧ firstTerminator b = some t ∧ t ≠ 0 := by
  unfold checkFrame
  split
  · simp_all
  · split
    · simp_all
    · split <;> simp_all
      intro h
      omega

theorem firstTerminator_eq_some {b : Frame} {t : Nat} :
    firstTerminator b = some t ↔
      ∃ h : t < 10, isTerminator b[t] = true ∧ ∀ j (hj : j < t), isTerminator b[j] = false := by
  unfold firstTerminator
  rw [List.findIdx?_eq_some_iff_getElem]
  simp

/-- A token is at most nine bytes long. -/
theorem checkFrame_lt {n t : Nat} {b : Frame} (h : checkFrame n b = .ok t) : t < 10 :=
  (firstTerminator_eq_some.mp (checkFrame_eq_ok.mp h).2.1).1

theorem acceptedTerminator_eq_some {n t : Nat} {b : Frame} :
    acceptedTerminator n b = some t ↔ checkFrame n b = .ok t := by
  unfold acceptedTerminator
  cases checkFrame n b <;> simp [Except.toOption]

/-! ## The parse (R87) -/

theorem isDigit_value {x : Byte} (h : isDigit x = true) : x.toNat - 0x30 ≤ 1 := by
  simp only [isDigit, chr0, chr1, Bool.or_eq_true, beq_iff_eq] at h
  rcases h with rfl | rfl <;> decide

/-- `ds.foldl` from any accumulator: the digits read so far shift left. -/
theorem foldl_digits (ds : List Byte) (a : Nat) :
    ds.foldl (fun acc d => 2 * acc + (d.toNat - 0x30)) a = a * 2 ^ ds.length + digitsValue ds := by
  induction ds generalizing a with
  | nil => simp [digitsValue]
  | cons d ds ih =>
    have h0 := ih (2 * 0 + (d.toNat - 0x30))
    simp only [digitsValue, List.foldl_cons, List.length_cons] at h0 ⊢
    rw [ih (2 * a + (d.toNat - 0x30)), h0]
    simp only [digitsValue, pow_succ]
    ring

theorem digitsValue_cons (d : Byte) (ds : List Byte) :
    digitsValue (d :: ds) = (d.toNat - 0x30) * 2 ^ ds.length + digitsValue ds := by
  have h := foldl_digits ds (2 * 0 + (d.toNat - 0x30))
  simpa [digitsValue] using h

theorem digitsValue_lt {ds : List Byte} (h : ∀ d ∈ ds, isDigit d = true) :
    digitsValue ds < 2 ^ ds.length := by
  induction ds with
  | nil => simp [digitsValue]
  | cons d ds ih =>
    have hd := isDigit_value (h d (by simp))
    have hds := ih (fun x hx => h x (by simp [hx]))
    rw [digitsValue_cons, List.length_cons, pow_succ]
    nlinarith

theorem digitPrefix_digits {tok : List Byte} {d : Byte} (h : d ∈ digitPrefix tok) :
    isDigit d = true := by
  have := List.all_takeWhile (p := isDigit) (l := tok)
  rw [List.all_eq_true] at this
  exact this d h

/-- The value a full window yields fits nine bits (R30). -/
theorem windowValue_lt {n t : Nat} {b : Frame} (h : checkFrame n b = .ok t) :
    digitsValue (digitPrefix (tokenOf t b)) < 512 := by
  have ht := checkFrame_lt h
  have hlen : (digitPrefix (tokenOf t b)).length ≤ 9 := by
    have h1 : (digitPrefix (tokenOf t b)).length ≤ (tokenOf t b).length :=
      (List.takeWhile_sublist isDigit).length_le
    simp only [tokenOf, List.length_take, Vector.length_toList] at h1
    simp only [tokenOf]
    omega
  calc digitsValue (digitPrefix (tokenOf t b))
      < 2 ^ (digitPrefix (tokenOf t b)).length := digitsValue_lt (fun d hd => digitPrefix_digits hd)
    _ ≤ 2 ^ 9 := Nat.pow_le_pow_right (by omega) hlen

/-! ## The tables -/

theorem selInstr_wf (k : Config) (g : AntennaGroup) (idx : Fin 16) : (selInstr g idx).wf k = true := by
  cases g <;> revert idx <;> simp only [Fin.forall_fin_succ] <;>
    exact ⟨rfl, rfl, rfl, rfl, rfl, rfl, rfl, rfl, rfl, rfl, rfl, rfl, rfl, rfl, rfl, rfl, fun i => i.elim0⟩

/-- A Selection spells `0xC0 + 16*g + (c-1)` (R71, R130). -/
theorem selInstr_value (g : AntennaGroup) (idx : Fin 16) :
    (selInstr g idx).value = BitVec.ofNat 9 (0xC0 + 16 * Machine.groupIndex g + idx.val) := by
  cases g <;> revert idx <;> decide

end Sys2Proof
end

