-- ==== Sys2Proof/Laws/State.lean ====
section
/-! SUPPORT. One lemma per field of State per named operation, each true by unfolding. -/

namespace Sys2Proof.Machine

variable (s : State)

/-! ### lineWrite -/

@[simp] theorem State.lineWrite_cfg (w : LineWrite) : (s.lineWrite w).cfg = s.cfg := rfl
@[simp] theorem State.lineWrite_phase (w : LineWrite) : (s.lineWrite w).phase = s.phase := rfl
@[simp] theorem State.lineWrite_wseq (w : LineWrite) : (s.lineWrite w).wseq = s.wseq := rfl
@[simp] theorem State.lineWrite_fn (w : LineWrite) : (s.lineWrite w).fn = s.fn := rfl
@[simp] theorem State.lineWrite_fb (w : LineWrite) : (s.lineWrite w).fb = s.fb := rfl
@[simp] theorem State.lineWrite_result (w : LineWrite) : (s.lineWrite w).result = s.result := rfl
@[simp] theorem State.lineWrite_lines (w : LineWrite) : (s.lineWrite w).lines = w.apply s.lines := rfl
@[simp] theorem State.lineWrite_diag (w : LineWrite) : (s.lineWrite w).diag = s.diag := rfl
@[simp] theorem State.lineWrite_drain (w : LineWrite) : (s.lineWrite w).drain = s.drain := rfl
@[simp] theorem State.lineWrite_residual (w : LineWrite) : (s.lineWrite w).residual = s.residual := rfl
@[simp] theorem State.lineWrite_por (w : LineWrite) : (s.lineWrite w).por = s.por := rfl
@[simp] theorem State.lineWrite_inputs (w : LineWrite) : (s.lineWrite w).inputs = s.inputs := rfl
@[simp] theorem State.lineWrite_out (w : LineWrite) : (s.lineWrite w).out = s.out ++ [.lineWr w (w.addrs s.cfg)] := rfl

/-! ### emitDiag -/

@[simp] theorem State.emitDiag_cfg (d : Diag) : (s.emitDiag d).cfg = s.cfg := rfl
@[simp] theorem State.emitDiag_phase (d : Diag) : (s.emitDiag d).phase = s.phase := rfl
@[simp] theorem State.emitDiag_wseq (d : Diag) : (s.emitDiag d).wseq = s.wseq := rfl
@[simp] theorem State.emitDiag_fn (d : Diag) : (s.emitDiag d).fn = s.fn := rfl
@[simp] theorem State.emitDiag_fb (d : Diag) : (s.emitDiag d).fb = s.fb := rfl
@[simp] theorem State.emitDiag_result (d : Diag) : (s.emitDiag d).result = s.result := rfl
@[simp] theorem State.emitDiag_lines (d : Diag) : (s.emitDiag d).lines = s.lines := rfl
@[simp] theorem State.emitDiag_diag (d : Diag) : (s.emitDiag d).diag = d := rfl
@[simp] theorem State.emitDiag_drain (d : Diag) : (s.emitDiag d).drain = s.drain := rfl
@[simp] theorem State.emitDiag_residual (d : Diag) : (s.emitDiag d).residual = s.residual := rfl
@[simp] theorem State.emitDiag_por (d : Diag) : (s.emitDiag d).por = s.por := rfl
@[simp] theorem State.emitDiag_inputs (d : Diag) : (s.emitDiag d).inputs = s.inputs := rfl
@[simp] theorem State.emitDiag_out (d : Diag) : (s.emitDiag d).out = s.out ++ [.diag d] := rfl

/-! ### setDrain -/

@[simp] theorem State.setDrain_cfg (d : Bool) : (s.setDrain d).cfg = s.cfg := rfl
@[simp] theorem State.setDrain_phase (d : Bool) : (s.setDrain d).phase = s.phase := rfl
@[simp] theorem State.setDrain_wseq (d : Bool) : (s.setDrain d).wseq = s.wseq := rfl
@[simp] theorem State.setDrain_fn (d : Bool) : (s.setDrain d).fn = s.fn := rfl
@[simp] theorem State.setDrain_fb (d : Bool) : (s.setDrain d).fb = s.fb := rfl
@[simp] theorem State.setDrain_result (d : Bool) : (s.setDrain d).result = s.result := rfl
@[simp] theorem State.setDrain_lines (d : Bool) : (s.setDrain d).lines = s.lines := rfl
@[simp] theorem State.setDrain_diag (d : Bool) : (s.setDrain d).diag = s.diag := rfl
@[simp] theorem State.setDrain_drain (d : Bool) : (s.setDrain d).drain = d := rfl
@[simp] theorem State.setDrain_residual (d : Bool) : (s.setDrain d).residual = if d then [] else s.residual := rfl
@[simp] theorem State.setDrain_por (d : Bool) : (s.setDrain d).por = s.por := rfl
@[simp] theorem State.setDrain_inputs (d : Bool) : (s.setDrain d).inputs = s.inputs := rfl
@[simp] theorem State.setDrain_out (d : Bool) : (s.setDrain d).out = if d then s.out ++ [.drain] else s.out := rfl

/-! ### accept -/

@[simp] theorem State.accept_cfg (n : Fin 11) (b : Frame) : (s.accept n b).cfg = s.cfg := rfl
@[simp] theorem State.accept_phase (n : Fin 11) (b : Frame) : (s.accept n b).phase = .decoding := rfl
@[simp] theorem State.accept_wseq (n : Fin 11) (b : Frame) : (s.accept n b).wseq = s.wseq := rfl
@[simp] theorem State.accept_fn (n : Fin 11) (b : Frame) : (s.accept n b).fn = n := rfl
@[simp] theorem State.accept_fb (n : Fin 11) (b : Frame) : (s.accept n b).fb = b := rfl
@[simp] theorem State.accept_result (n : Fin 11) (b : Frame) : (s.accept n b).result = s.result := rfl
@[simp] theorem State.accept_lines (n : Fin 11) (b : Frame) : (s.accept n b).lines = s.lines := rfl
@[simp] theorem State.accept_diag (n : Fin 11) (b : Frame) : (s.accept n b).diag = s.diag := rfl
@[simp] theorem State.accept_drain (n : Fin 11) (b : Frame) : (s.accept n b).drain = false := rfl
@[simp] theorem State.accept_residual (n : Fin 11) (b : Frame) : (s.accept n b).residual = s.residual := rfl
@[simp] theorem State.accept_por (n : Fin 11) (b : Frame) : (s.accept n b).por = s.por := rfl
@[simp] theorem State.accept_inputs (n : Fin 11) (b : Frame) : (s.accept n b).inputs = s.inputs := rfl
@[simp] theorem State.accept_out (n : Fin 11) (b : Frame) : (s.accept n b).out = s.out := rfl

/-! ### enterResolved -/

@[simp] theorem State.enterResolved_cfg (m : Mapped) (v : Value) : (s.enterResolved m v).cfg = s.cfg := rfl
@[simp] theorem State.enterResolved_phase (m : Mapped) (v : Value) : (s.enterResolved m v).phase = .resolved := rfl
@[simp] theorem State.enterResolved_wseq (m : Mapped) (v : Value) : (s.enterResolved m v).wseq = 0 := rfl
@[simp] theorem State.enterResolved_fn (m : Mapped) (v : Value) : (s.enterResolved m v).fn = s.fn := rfl
@[simp] theorem State.enterResolved_fb (m : Mapped) (v : Value) : (s.enterResolved m v).fb = s.fb := rfl
@[simp] theorem State.enterResolved_result (m : Mapped) (v : Value) : (s.enterResolved m v).result = { mapped := m, t := s.term, v := some v } := rfl
@[simp] theorem State.enterResolved_lines (m : Mapped) (v : Value) : (s.enterResolved m v).lines = s.lines := rfl
@[simp] theorem State.enterResolved_diag (m : Mapped) (v : Value) : (s.enterResolved m v).diag = s.diag := rfl
@[simp] theorem State.enterResolved_drain (m : Mapped) (v : Value) : (s.enterResolved m v).drain = s.drain := rfl
@[simp] theorem State.enterResolved_residual (m : Mapped) (v : Value) : (s.enterResolved m v).residual = s.residual := rfl
@[simp] theorem State.enterResolved_por (m : Mapped) (v : Value) : (s.enterResolved m v).por = s.por := rfl
@[simp] theorem State.enterResolved_inputs (m : Mapped) (v : Value) : (s.enterResolved m v).inputs = s.inputs := rfl
@[simp] theorem State.enterResolved_out (m : Mapped) (v : Value) : (s.enterResolved m v).out = s.out := rfl

/-! ### enterRejected -/

@[simp] theorem State.enterRejected_cfg (e : ErrOutcome) (v : Option Value) : (s.enterRejected e v).cfg = s.cfg := rfl
@[simp] theorem State.enterRejected_phase (e : ErrOutcome) (v : Option Value) : (s.enterRejected e v).phase = .rejected := rfl
@[simp] theorem State.enterRejected_wseq (e : ErrOutcome) (v : Option Value) : (s.enterRejected e v).wseq = 0 := rfl
@[simp] theorem State.enterRejected_fn (e : ErrOutcome) (v : Option Value) : (s.enterRejected e v).fn = s.fn := rfl
@[simp] theorem State.enterRejected_fb (e : ErrOutcome) (v : Option Value) : (s.enterRejected e v).fb = s.fb := rfl
@[simp] theorem State.enterRejected_result (e : ErrOutcome) (v : Option Value) : (s.enterRejected e v).result = { mapped := .err e, t := s.term, v := v } := rfl
@[simp] theorem State.enterRejected_lines (e : ErrOutcome) (v : Option Value) : (s.enterRejected e v).lines = s.lines := rfl
@[simp] theorem State.enterRejected_diag (e : ErrOutcome) (v : Option Value) : (s.enterRejected e v).diag = s.diag := rfl
@[simp] theorem State.enterRejected_drain (e : ErrOutcome) (v : Option Value) : (s.enterRejected e v).drain = s.drain := rfl
@[simp] theorem State.enterRejected_residual (e : ErrOutcome) (v : Option Value) : (s.enterRejected e v).residual = s.residual := rfl
@[simp] theorem State.enterRejected_por (e : ErrOutcome) (v : Option Value) : (s.enterRejected e v).por = s.por := rfl
@[simp] theorem State.enterRejected_inputs (e : ErrOutcome) (v : Option Value) : (s.enterRejected e v).inputs = s.inputs := rfl
@[simp] theorem State.enterRejected_out (e : ErrOutcome) (v : Option Value) : (s.enterRejected e v).out = s.out := rfl

/-! ### writeStep -/

@[simp] theorem State.writeStep_cfg (w : LineWrite) : (s.writeStep w).cfg = s.cfg := rfl
@[simp] theorem State.writeStep_phase (w : LineWrite) : (s.writeStep w).phase = s.phase := rfl
@[simp] theorem State.writeStep_wseq (w : LineWrite) : (s.writeStep w).wseq = s.wseq + 1 := rfl
@[simp] theorem State.writeStep_fn (w : LineWrite) : (s.writeStep w).fn = s.fn := rfl
@[simp] theorem State.writeStep_fb (w : LineWrite) : (s.writeStep w).fb = s.fb := rfl
@[simp] theorem State.writeStep_result (w : LineWrite) : (s.writeStep w).result = s.result := rfl
@[simp] theorem State.writeStep_lines (w : LineWrite) : (s.writeStep w).lines = w.apply s.lines := rfl
@[simp] theorem State.writeStep_diag (w : LineWrite) : (s.writeStep w).diag = s.diag := rfl
@[simp] theorem State.writeStep_drain (w : LineWrite) : (s.writeStep w).drain = s.drain := rfl
@[simp] theorem State.writeStep_residual (w : LineWrite) : (s.writeStep w).residual = s.residual := rfl
@[simp] theorem State.writeStep_por (w : LineWrite) : (s.writeStep w).por = s.por := rfl
@[simp] theorem State.writeStep_inputs (w : LineWrite) : (s.writeStep w).inputs = s.inputs := rfl
@[simp] theorem State.writeStep_out (w : LineWrite) : (s.writeStep w).out = s.out ++ [.lineWr w (w.addrs s.cfg)] := rfl

/-! ### completeResolved -/

@[simp] theorem State.completeResolved_cfg : s.completeResolved.cfg = s.cfg := rfl
@[simp] theorem State.completeResolved_phase : s.completeResolved.phase = .idle := rfl
@[simp] theorem State.completeResolved_wseq : s.completeResolved.wseq = 0 := rfl
@[simp] theorem State.completeResolved_fn : s.completeResolved.fn = s.fn := rfl
@[simp] theorem State.completeResolved_fb : s.completeResolved.fb = s.fb := rfl
@[simp] theorem State.completeResolved_result : s.completeResolved.result = s.result := rfl
@[simp] theorem State.completeResolved_lines : s.completeResolved.lines = s.lines := rfl
@[simp] theorem State.completeResolved_diag : s.completeResolved.diag = diagOf s.result := rfl
@[simp] theorem State.completeResolved_drain : s.completeResolved.drain = drainReq s.result := rfl
@[simp] theorem State.completeResolved_residual : s.completeResolved.residual = if drainReq s.result then [] else s.residual := rfl
@[simp] theorem State.completeResolved_por : s.completeResolved.por = s.por := rfl
@[simp] theorem State.completeResolved_inputs : s.completeResolved.inputs = s.inputs := rfl
@[simp] theorem State.completeResolved_out : s.completeResolved.out = if drainReq s.result then s.out ++ [.diag (diagOf s.result)] ++ [.drain] else s.out ++ [.diag (diagOf s.result)] := rfl

/-! ### completeRejected -/

@[simp] theorem State.completeRejected_cfg : s.completeRejected.cfg = s.cfg := rfl
@[simp] theorem State.completeRejected_phase : s.completeRejected.phase = .idle := rfl
@[simp] theorem State.completeRejected_wseq : s.completeRejected.wseq = s.wseq := rfl
@[simp] theorem State.completeRejected_fn : s.completeRejected.fn = s.fn := rfl
@[simp] theorem State.completeRejected_fb : s.completeRejected.fb = s.fb := rfl
@[simp] theorem State.completeRejected_result : s.completeRejected.result = s.result := rfl
@[simp] theorem State.completeRejected_lines : s.completeRejected.lines = s.lines := rfl
@[simp] theorem State.completeRejected_diag : s.completeRejected.diag = diagOf s.result := rfl
@[simp] theorem State.completeRejected_drain : s.completeRejected.drain = true := rfl
@[simp] theorem State.completeRejected_residual : s.completeRejected.residual = [] := rfl
@[simp] theorem State.completeRejected_por : s.completeRejected.por = s.por := rfl
@[simp] theorem State.completeRejected_inputs : s.completeRejected.inputs = s.inputs := rfl
@[simp] theorem State.completeRejected_out : s.completeRejected.out = s.out ++ [.diag (diagOf s.result)] ++ [.drain] := rfl

/-! ### resetWith -/

@[simp] theorem State.resetWith_cfg (k : Config) : (State.resetWith k).cfg = k := rfl
@[simp] theorem State.resetWith_phase (k : Config) : (State.resetWith k).phase = .idle := rfl
@[simp] theorem State.resetWith_wseq (k : Config) : (State.resetWith k).wseq = 0 := rfl
@[simp] theorem State.resetWith_lines (k : Config) : (State.resetWith k).lines = k.initLines := rfl
@[simp] theorem State.resetWith_diag (k : Config) : (State.resetWith k).diag = Diag.zero := rfl
@[simp] theorem State.resetWith_drain (k : Config) : (State.resetWith k).drain = false := rfl
@[simp] theorem State.resetWith_residual (k : Config) : (State.resetWith k).residual = [] := rfl
@[simp] theorem State.resetWith_por (k : Config) : (State.resetWith k).por = false := rfl
@[simp] theorem State.resetWith_inputs (k : Config) : (State.resetWith k).inputs = [] := rfl
@[simp] theorem State.resetWith_out (k : Config) : (State.resetWith k).out = [] := rfl

end Sys2Proof.Machine
end

