-- ==== Sys2Proof/Laws/Ops.lean ====
section
/-! SUPPORT. What each shared operation can do, said once. -/

namespace Sys2Proof.Machine

/-! ## Line writes -/

@[simp] theorem LineWrite.apply_clearAll (x : LineLevels) : LineWrite.clearAll.apply x = 0 := rfl

@[simp] theorem LineWrite.apply_set (k : Fin 34) (x : LineLevels) :
    (LineWrite.set k).apply x = x ||| (1#34 <<< k.val) := rfl

theorem LineWrite.apply_idem (w : LineWrite) (x : LineLevels) : w.apply (w.apply x) = w.apply x := by
  cases w with
  | clearAll => rfl
  | set k => simp [BitVec.or_assoc]

/-! ## The write sequence -/

theorem writeSeq_length_le {m : Mapped} {ws : List LineWrite} (h : writeSeq m = some ws) :
    ws.length ≤ 3 := by
  cases m with
  | select g idx => cases h; simp
  | config sub act => cases act <;> cases h <;> simp
  | err e => cases h

theorem writeSeq_eq_none_iff {m : Mapped} : writeSeq m = none ↔ ∃ e, m = .err e := by
  cases m with
  | select g idx => simp [writeSeq]
  | config sub act => cases act <;> simp [writeSeq]
  | err e => simp [writeSeq]

@[simp] theorem Mapped.isErr_err (e : ErrOutcome) : (Mapped.err e).isErr = true := rfl
@[simp] theorem Mapped.isErr_select (g : AntennaGroup) (idx : Fin 16) : (Mapped.select g idx).isErr = false := rfl
@[simp] theorem Mapped.isErr_config (sub : SubOp) (act : CfgAction) : (Mapped.config sub act).isErr = false := rfl

/-- The drain decision of an accepted action is the terminator's alone (R122). -/
theorem drainReq_of_writeSeq {r : Result} {ws : List LineWrite} (h : writeSeq r.mapped = some ws) :
    drainReq r = (r.t != some 8) := by
  unfold drainReq
  cases hm : r.mapped with
  | select g idx => rfl
  | config sub act => rfl
  | err e => rw [hm] at h; cases h

theorem drainReq_err {r : Result} {e : ErrOutcome} (h : r.mapped = .err e) : drainReq r = true := by
  simp [drainReq, h]

/-! ## The transitions -/

/-- A RESOLVED transition is a write of the sequence or the completion after the last one. -/
theorem State.resolvedStep_cases {s t : State} (h : s.resolvedStep = .next t) :
    ∃ ws, writeSeq s.result.mapped = some ws ∧
      ((∃ w, ws[s.wseq.toNat]? = some w ∧ t = s.writeStep w) ∨
       (s.wseq.toNat = ws.length ∧ t = s.completeResolved)) := by
  unfold State.resolvedStep at h
  split at h
  · cases h
  · rename_i ws hws
    refine ⟨ws, hws, ?_⟩
    split at h
    · rename_i w hw
      cases h
      exact .inl ⟨w, hw, rfl⟩
    · split at h
      · rename_i hlen
        cases h
        exact .inr ⟨hlen, rfl⟩
      · cases h

theorem State.resolvedStep_write {s : State} {ws : List LineWrite} {w : LineWrite}
    (hws : writeSeq s.result.mapped = some ws) (hw : ws[s.wseq.toNat]? = some w) :
    s.resolvedStep = .next (s.writeStep w) := by
  simp [State.resolvedStep, hws, hw]

theorem State.resolvedStep_complete {s : State} {ws : List LineWrite}
    (hws : writeSeq s.result.mapped = some ws) (hlen : s.wseq.toNat = ws.length) :
    s.resolvedStep = .next s.completeResolved := by
  simp [State.resolvedStep, hws, hlen]

/-- What `advance` can do. -/
theorem State.advance_cases {s t : State} (h : s.advance = .next t) :
    (s.phase = .resolved ∧ s.resolvedStep = .next t) ∨ (s.phase = .rejected ∧ t = s.completeRejected) := by
  unfold State.advance at h
  split at h
  · exact .inl ⟨‹_›, h⟩
  · cases h; exact .inr ⟨‹_›, rfl⟩
  · cases h
  · cases h

/-- A command goes on from DECODING, or, when RESULT is its own, with the transition of its result. -/
theorem State.runCommand_cases {i : Instr} {enter : State → State} {s t : State}
    (h : s.runCommand i enter = .next t) :
    (s.phase = .decoding ∧ t = enter s) ∨
    ((s.phase = .resolved ∨ s.phase = .rejected) ∧ s.result.command = some i ∧ s.advance = .next t) := by
  unfold State.runCommand at h
  split at h
  · cases h; exact .inl ⟨‹_›, rfl⟩
  · cases h
  · split at h
    · exact .inr ⟨.inl ‹_›, ‹_›, h⟩
    · cases h
  · split at h
    · exact .inr ⟨.inr ‹_›, ‹_›, h⟩
    · cases h

theorem State.runCommand_decoding {i : Instr} {enter : State → State} {s : State}
    (h : s.phase = .decoding) : s.runCommand i enter = .next (enter s) := by
  simp [State.runCommand, h]

theorem State.runCommand_latched {i : Instr} {enter : State → State} {s : State}
    (h : s.phase = .resolved ∨ s.phase = .rejected) (hc : s.result.command = some i) :
    s.runCommand i enter = s.advance := by
  rcases h with h | h <;> simp [State.runCommand, h, hc]

@[simp] theorem State.noCycleRan_iff (s : State) : s.noCycleRan = true ↔ s.out = [] := by
  simp [State.noCycleRan]

/-- A reset answers a next state in IDLE before the first cycle only. -/
theorem State.powerOnReset_cases {s t : State} (h : s.powerOnReset = .next t) :
    s.phase = .idle ∧ s.out = [] ∧
      t = { State.resetWith s.cfg with residual := s.residual, inputs := s.inputs } := by
  unfold State.powerOnReset at h
  split at h
  · split at h
    · cases h; exact ⟨‹_›, s.noCycleRan_iff.mp ‹_›, rfl⟩
    · cases h
  all_goals cases h

theorem State.powerOnReset_idle {s : State} (hp : s.phase = .idle) (ho : s.out = []) :
    s.powerOnReset = .next { State.resetWith s.cfg with residual := s.residual, inputs := s.inputs } := by
  simp [State.powerOnReset, hp, ho]

/-- The moves of an IDLE state (R110, R111, R41). -/
theorem State.idleMove_cases (s : State) :
    (s.inputs = [] ∧ s.idleMove = s) ∨
    (∃ bs rest, s.inputs = .receive bs :: rest ∧
      s.idleMove = { s with residual := s.residual ++ bs, inputs := rest }) ∨
    (∃ n pad rest, s.inputs = .read n pad :: rest ∧
      s.idleMove = { s with
        residual := s.residual.drop (readCount n s.residual).val
        inputs := rest
        fn := readCount n s.residual
        fb := readBuffer (readCount n s.residual) pad s.residual
        drain := false
        phase := .decoding }) := by
  unfold State.idleMove
  split
  · exact .inl ⟨‹_›, rfl⟩
  · exact .inr (.inl ⟨_, _, ‹_›, rfl⟩)
  · exact .inr (.inr ⟨_, _, _, ‹_›, rfl⟩)

/-! ## The transport -/

@[simp] theorem readCount_val (n : Fin 11) (residual : List Byte) :
    (readCount n residual).val = min n.val residual.length := rfl

theorem readBuffer_get (m : Fin 11) (pad : Frame) (residual : List Byte) (i : Nat) (h : i < 10) :
    (readBuffer m pad residual)[i] = if i < m.val then residual.getD i 0 else pad[i] := by
  simp [readBuffer]

end Sys2Proof.Machine
end

