-- ==== Sys2Proof/Laws/Exec.lean ====
section
/-! SUPPORT. What `exec` can do, said once for all commands. -/

namespace Sys2Proof.Machine

/-- Every arm of `exec` is the shared transition of its command: it goes on from DECODING by a latch that
changes RESULT, WSEQ and PHASE alone and ends in RESOLVED with an action or in REJECTED with an error. -/
theorem exec_is_runCommand (i : Instr) :
    ∃ enter : State → State, (∀ s, exec i s = s.runCommand i enter) ∧
      ∀ s, (∃ m v, enter s = s.enterResolved m v ∧ ∃ ws, writeSeq m = some ws) ∨
        (∃ e v, enter s = s.enterRejected e v) := by
  cases i
  case cfg sub =>
    refine ⟨_, fun s => rfl, fun s => ?_⟩
    split
    · rename_i act _
      exact .inl ⟨_, _, rfl, by cases act <;> exact ⟨_, rfl⟩⟩
    · exact .inr ⟨_, _, rfl⟩
  all_goals
    first
    | exact ⟨_, fun s => rfl, fun s => .inl ⟨_, _, rfl, _, rfl⟩⟩
    | exact ⟨_, fun s => rfl, fun s => .inr ⟨_, _, rfl⟩⟩

/-- In RESOLVED and REJECTED a command in progress takes the transition of the latched result. -/
theorem exec_latched {i : Instr} {s : State} (h : s.phase = .resolved ∨ s.phase = .rejected)
    (hc : s.result.command = some i) : exec i s = s.advance := by
  obtain ⟨enter, he, -⟩ := exec_is_runCommand i
  rw [he, State.runCommand_latched h hc]

/-- The next states of `exec`. -/
theorem exec_cases {i : Instr} {s t : State} (h : exec i s = .next t) :
    (s.phase = .decoding ∧
      ((∃ m v ws, t = s.enterResolved m v ∧ writeSeq m = some ws) ∨ (∃ e v, t = s.enterRejected e v))) ∨
    ((s.phase = .resolved ∨ s.phase = .rejected) ∧ s.result.command = some i ∧ s.advance = .next t) := by
  obtain ⟨enter, he, henter⟩ := exec_is_runCommand i
  rw [he] at h
  rcases State.runCommand_cases h with ⟨hp, rfl⟩ | h
  · refine .inl ⟨hp, ?_⟩
    rcases henter s with ⟨m, v, hm, ws, hws⟩ | ⟨e, v, hm⟩
    · exact .inl ⟨m, v, ws, hm, hws⟩
    · exact .inr ⟨e, v, hm⟩
  · exact .inr h

end Sys2Proof.Machine
end

