-- ==== Sys2Proof/Laws/PerInstr.lean ====
section
/-! SUPPORT. The shape of every command's canonical frame (R60, R61): the frame check passes with the
terminator after the digits, index 8, and 9 for an over-wide value; and its first byte is a digit. -/

namespace Sys2Proof.Laws.FrameShape

/-- The canonical frame of `i` passes the frame check, with its terminator where its digits end. -/
def Statement (i : Instr) : Prop :=
  checkFrame 10 (encode i) = .ok (if i.value.getLsbD 8 then 9 else 8) ∧ isDigit (encode i)[0] = true

theorem frameOf_shape (v : Value) :
    checkFrame 10 (frameOf v) = .ok (if v.getLsbD 8 then 9 else 8) ∧ isDigit (frameOf v)[0] = true := by
  revert v
  decide

theorem selEms1 : Statement .selEms1 := frameOf_shape _
theorem selEms2 : Statement .selEms2 := frameOf_shape _
theorem selEms3 : Statement .selEms3 := frameOf_shape _
theorem selEms4 : Statement .selEms4 := frameOf_shape _
theorem selEms5 : Statement .selEms5 := frameOf_shape _
theorem selEms6 : Statement .selEms6 := frameOf_shape _
theorem selEms7 : Statement .selEms7 := frameOf_shape _
theorem selEms8 : Statement .selEms8 := frameOf_shape _
theorem selEms9 : Statement .selEms9 := frameOf_shape _
theorem selEms10 : Statement .selEms10 := frameOf_shape _
theorem selEms11 : Statement .selEms11 := frameOf_shape _
theorem selEms12 : Statement .selEms12 := frameOf_shape _
theorem selEms13 : Statement .selEms13 := frameOf_shape _
theorem selEms14 : Statement .selEms14 := frameOf_shape _
theorem selEms15 : Statement .selEms15 := frameOf_shape _
theorem selEms16 : Statement .selEms16 := frameOf_shape _
theorem selDfs1 : Statement .selDfs1 := frameOf_shape _
theorem selDfs2 : Statement .selDfs2 := frameOf_shape _
theorem selDfs3 : Statement .selDfs3 := frameOf_shape _
theorem selDfs4 : Statement .selDfs4 := frameOf_shape _
theorem selDfs5 : Statement .selDfs5 := frameOf_shape _
theorem selDfs6 : Statement .selDfs6 := frameOf_shape _
theorem selDfs7 : Statement .selDfs7 := frameOf_shape _
theorem selDfs8 : Statement .selDfs8 := frameOf_shape _
theorem selDfs9 : Statement .selDfs9 := frameOf_shape _
theorem selDfs10 : Statement .selDfs10 := frameOf_shape _
theorem selDfs11 : Statement .selDfs11 := frameOf_shape _
theorem selDfs12 : Statement .selDfs12 := frameOf_shape _
theorem selDfs13 : Statement .selDfs13 := frameOf_shape _
theorem selDfs14 : Statement .selDfs14 := frameOf_shape _
theorem selDfs15 : Statement .selDfs15 := frameOf_shape _
theorem selDfs16 : Statement .selDfs16 := frameOf_shape _
theorem sleep : Statement .sleep := frameOf_shape _
theorem cfg (x : SubOp) : Statement (.cfg x) := frameOf_shape _
theorem cfgUnknown (x : SubOp) : Statement (.cfgUnknown x) := frameOf_shape _
theorem rsvGrp2 (x : BitVec 4) : Statement (.rsvGrp2 x) := frameOf_shape _
theorem rsvGrp3 (x : BitVec 4) : Statement (.rsvGrp3 x) := frameOf_shape _
theorem noSentinel (x : BitVec 7) : Statement (.noSentinel x) := frameOf_shape _
theorem overWide (x : BitVec 8) : Statement (.overWide x) := frameOf_shape _

end Sys2Proof.Laws.FrameShape
end

