-- ==== Sys2Proof/Laws/Runs.lean ====
section
/-! SUPPORT. Runs, one step at a time. -/

namespace Sys2Proof.Machine

theorem run_next {M : Host.Core} {k : Nat} {s t : M.State} (h : M.step s = .next t) :
    M.run (k + 1) s = M.run k t := by
  simp [Host.Core.run, h]

theorem run_fault {M : Host.Core} {k : Nat} {s : M.State} {f : M.Fault} (h : M.step s = .fault f) :
    M.run (k + 1) s = .fault f := by
  simp [Host.Core.run, h]

theorem run_refused {M : Host.Core} {k : Nat} {s : M.State} {r : M.Refusal} (h : M.step s = .refused r) :
    M.run (k + 1) s = .refused r := by
  simp [Host.Core.run, h]

/-- `steps` is the host's run of the machine. -/
theorem steps_eq_run (k : Nat) (s : State) : steps k s = Host.Core.run Sys2Proof.core k s := by
  induction k generalizing s with
  | zero => rfl
  | succ k ih =>
    rw [steps]
    cases h : step s with
    | next t => exact (ih t).trans (run_next (M := Sys2Proof.core) h).symm
    | fault f => exact (run_fault (M := Sys2Proof.core) h).symm
    | refused r => exact (run_refused (M := Sys2Proof.core) h).symm

theorem State.runs_zero (s : State) : s.Runs 0 s := rfl

theorem State.runs_succ {s u t : State} {k : Nat} (h : step s = .next u) (hu : u.Runs k t) :
    s.Runs (k + 1) t := by
  simp only [State.Runs, steps, h]
  exact hu

theorem State.runs_one {s t : State} (h : step s = .next t) : s.Runs 1 t :=
  State.runs_succ h t.runs_zero

/-- A longer run goes through its first step. -/
theorem State.runs_succ_iff {s t : State} {k : Nat} :
    s.Runs (k + 1) t ↔ ∃ u, step s = .next u ∧ u.Runs k t := by
  constructor
  · intro h
    simp only [State.Runs, steps] at h
    cases hs : step s with
    | next u => rw [hs] at h; exact ⟨u, rfl, h⟩
    | fault f => rw [hs] at h; cases h
    | refused r => rw [hs] at h; cases h
  · rintro ⟨u, hs, hu⟩
    exact State.runs_succ hs hu

end Sys2Proof.Machine
end

