-- ==== Sys2Proof/Laws/Step.lean ====
section
/-! SUPPORT. What a step does in each PHASE, said once. -/

namespace Sys2Proof.Machine

theorem step_por {s : State} (h : s.por = true) : step s = s.powerOnReset := by
  unfold step
  rw [h]
  rfl

theorem step_idle {s : State} (h : s.por = false) (hp : s.phase = .idle) :
    step s = .next s.idleMove := by
  unfold step
  rw [h, hp]
  rfl

theorem step_decoding {s : State} (h : s.por = false) (hp : s.phase = .decoding) :
    step s = match decode s.cfg s.fn.val s.fb with
      | .instr i => exec i s
      | .reject e => .next (s.enterRejected (errOfDecode e) none) := by
  unfold step
  rw [h, hp]
  rfl

/-- With a latched result a step is the transition of that result, whichever command it belongs to. -/
theorem step_latched {s : State} (h : s.por = false) (hp : s.phase = .resolved ∨ s.phase = .rejected) :
    step s = s.advance := by
  have hs : step s = match s.result.command with
      | some i => exec i s
      | none => s.advance := by
    unfold step
    rcases hp with hp | hp <;> rw [h, hp] <;> rfl
  rw [hs]
  split
  · exact exec_latched hp ‹_›
  · rfl

theorem step_resolved {s : State} (h : s.por = false) (hp : s.phase = .resolved) :
    step s = s.resolvedStep := by
  rw [step_latched h (.inl hp)]
  unfold State.advance
  rw [hp]

theorem step_rejected {s : State} (h : s.por = false) (hp : s.phase = .rejected) :
    step s = .next s.completeRejected := by
  rw [step_latched h (.inr hp)]
  unfold State.advance
  rw [hp]

/-- The next states of a step, by the PHASE it starts in. -/
theorem step_cases {s t : State} (h : step s = .next t) :
    (s.por = true ∧ s.phase = .idle ∧ s.out = [] ∧
      t = { State.resetWith s.cfg with residual := s.residual, inputs := s.inputs }) ∨
    (s.por = false ∧ s.phase = .idle ∧ t = s.idleMove) ∨
    (s.por = false ∧ s.phase = .decoding ∧
      ((∃ i, decode s.cfg s.fn.val s.fb = .instr i ∧ exec i s = .next t) ∨
       (∃ e, decode s.cfg s.fn.val s.fb = .reject e ∧ t = s.enterRejected (errOfDecode e) none))) ∨
    (s.por = false ∧ s.phase = .resolved ∧ s.resolvedStep = .next t) ∨
    (s.por = false ∧ s.phase = .rejected ∧ t = s.completeRejected) := by
  cases hpor : s.por with
  | true =>
    rw [step_por hpor] at h
    exact .inl ⟨rfl, State.powerOnReset_cases h⟩
  | false =>
    refine .inr ?_
    cases hp : s.phase with
    | idle =>
      rw [step_idle hpor hp] at h
      cases h
      exact .inl ⟨rfl, rfl, rfl⟩
    | decoding =>
      rw [step_decoding hpor hp] at h
      refine .inr (.inl ⟨rfl, rfl, ?_⟩)
      split at h
      · exact .inl ⟨_, ‹_›, h⟩
      · cases h
        exact .inr ⟨_, ‹_›, rfl⟩
    | resolved =>
      rw [step_resolved hpor hp] at h
      exact .inr (.inr (.inl ⟨rfl, rfl, h⟩))
    | rejected =>
      rw [step_rejected hpor hp] at h
      cases h
      exact .inr (.inr (.inr ⟨rfl, rfl, rfl⟩))

end Sys2Proof.Machine
end

