-- ==== Sys2Proof/Tests/Slice0.lean ====
section
/-! SUPPORT. Tests: expected values are the rows of spec/95_test_vectors.md (named in the comments) and of
spec/opcode_table.json; and, for each obligation with hypotheses, a state that meets them. -/

namespace Sys2Proof.Tests

open Sys2Proof.Machine

/-! ## Small states -/

/-- `CFG_RECOGNISED = {0, 1}` with the given `CFG_ACTION(1)` (V-C6, V-C7). -/
def cfgOne (act : CfgAction) : Config := { Config.default with cfgExtra := [(1, act)] }

/-- A read of `n` bytes latched, with these levels. -/
def latched (k : Config) (x : LineLevels) (n : Fin 11) (b : Frame) : State :=
  { State.resetWith k with phase := .decoding, lines := x, fn := n, fb := b }

/-- A Resolved cycle after `w` writes. -/
def resolved (m : Mapped) (t : Nat) (v : Value) (w : BitVec 2) (x : LineLevels) : State :=
  { State.reset with
    phase := .resolved, wseq := w, lines := x, result := { mapped := m, t := some t, v := some v } }

/-- A Rejected cycle. -/
def rejected (e : ErrOutcome) (v : Option Value) : State :=
  { State.reset with phase := .rejected, result := { mapped := .err e, t := some 8, v := v } }

/-- A waiting block with bytes received and inputs to come. -/
def waiting (residual : List Byte) (inputs : List Input) : State :=
  { State.reset with residual := residual, inputs := inputs }

/-- The next state of an answer, in a form `decide` can compare. -/
def nextState : Answer → Option State
  | .next t => some t
  | .fault _ => none
  | .refused _ => none

/-- The stop of an answer. -/
def stopped : Answer → Option (Fault ⊕ Refusal)
  | .next _ => none
  | .fault f => some (.inl f)
  | .refused r => some (.inr r)

def blank : Frame := Vector.replicate 10 0

/-- `SEL EMS,1`, `SEL DFS,16`, `SLEEP`, the config frame of sub-opcode 1, reserved group 2 index 0. -/
def fEms1 : Frame := #v[0x31, 0x31, 0x30, 0x30, 0x30, 0x30, 0x30, 0x30, 0x0D, 0x0A]
def fDfs16 : Frame := #v[0x31, 0x31, 0x30, 0x31, 0x31, 0x31, 0x31, 0x31, 0x0D, 0x0A]
def fSleep : Frame := #v[0x31, 0x30, 0x30, 0x30, 0x30, 0x30, 0x30, 0x30, 0x0D, 0x0A]
def fCfg1 : Frame := #v[0x31, 0x30, 0x30, 0x30, 0x30, 0x30, 0x30, 0x31, 0x0D, 0x0A]
def fRsv : Frame := #v[0x31, 0x31, 0x31, 0x30, 0x30, 0x30, 0x30, 0x30, 0x0D, 0x0A]
/-- V-P9: nine digits, leading 0. V-P7: nine digits, over-wide. V-P2: a sign. V-F5: no terminator. -/
def fNine : Frame := #v[0x30, 0x31, 0x31, 0x30, 0x30, 0x30, 0x30, 0x30, 0x30, 0x0D]
def fWide : Frame := #v[0x31, 0x31, 0x30, 0x30, 0x30, 0x30, 0x30, 0x30, 0x31, 0x0D]
def fSign : Frame := #v[0x2B, 0x31, 0x30, 0x30, 0x30, 0x30, 0x30, 0x30, 0x0D, 0x0A]
def fNoTerm : Frame := #v[0x31, 0x31, 0x30, 0x30, 0x30, 0x30, 0x30, 0x30, 0x31, 0x31]
/-- V-F4: LF first. V-P6: prefix stops at x. V-P10: t = 1. -/
def fLf : Frame := #v[0x0A, 0x31, 0x31, 0x30, 0x30, 0x30, 0x30, 0x30, 0x30, 0x0D]
def fPrefix : Frame := #v[0x31, 0x30, 0x30, 0x30, 0x30, 0x30, 0x30, 0x78, 0x0D, 0x0A]
def fOne : Frame := #v[0x31, 0x0D, 0x0A, 0x31, 0x31, 0x30, 0x30, 0x30, 0x30, 0x30]

/-! ## WellFormed refuses an ill-formed term for each of its checks -/

theorem test_wf_refuses_cfg_of_sleep : (Instr.cfg 0).wf (cfgOne .clearAll) = false := by decide
theorem test_wf_refuses_cfg_unrecognised : (Instr.cfg 1).wf Config.default = false := by decide
theorem test_wf_refuses_unknown_recognised : (Instr.cfgUnknown 1).wf (cfgOne .noWrite) = false := by decide
theorem test_wf_refuses_unknown_sleep : (Instr.cfgUnknown 0).wf Config.default = false := by decide
theorem test_wf_accepts :
    (Instr.cfg 1).wf (cfgOne .clearAll) = true ∧ (Instr.cfgUnknown 1).wf Config.default = true ∧
      Instr.sleep.wf Config.default = true ∧ (Instr.overWide 0xFF).wf Config.default = true := by decide

/-- R9: LINE_ADDR is injective and has no channel 0. -/
theorem test_lineAddr_constraint :
    lineAddrOk (Vector.ofFn (fun k => ⟨k.val / 16, k.val % 16 + 1⟩)) = true ∧
    lineAddrOk (Vector.replicate 34 ⟨0, 1⟩) = false ∧
    lineAddrOk (Vector.ofFn (fun k => ⟨0, k.val⟩)) = false := by decide

/-! ## Decoding, one word for every constructor (V-S1 to V-S32, V-C1, V-C5, V-C6, V-R2, V-R3, V-P5, V-P7) -/

theorem test_decode_sel_ems :
    decode Config.default 10 #v[0x31, 0x31, 0x30, 0x30, 0x30, 0x30, 0x30, 0x30, 0x0D, 0x0A] = .instr .selEms1 ∧
    decode Config.default 10 #v[0x31, 0x31, 0x30, 0x30, 0x30, 0x30, 0x30, 0x31, 0x0D, 0x0A] = .instr .selEms2 ∧
    decode Config.default 10 #v[0x31, 0x31, 0x30, 0x30, 0x30, 0x30, 0x31, 0x30, 0x0D, 0x0A] = .instr .selEms3 ∧
    decode Config.default 10 #v[0x31, 0x31, 0x30, 0x30, 0x30, 0x30, 0x31, 0x31, 0x0D, 0x0A] = .instr .selEms4 ∧
    decode Config.default 10 #v[0x31, 0x31, 0x30, 0x30, 0x30, 0x31, 0x30, 0x30, 0x0D, 0x0A] = .instr .selEms5 ∧
    decode Config.default 10 #v[0x31, 0x31, 0x30, 0x30, 0x30, 0x31, 0x30, 0x31, 0x0D, 0x0A] = .instr .selEms6 ∧
    decode Config.default 10 #v[0x31, 0x31, 0x30, 0x30, 0x30, 0x31, 0x31, 0x30, 0x0D, 0x0A] = .instr .selEms7 ∧
    decode Config.default 10 #v[0x31, 0x31, 0x30, 0x30, 0x30, 0x31, 0x31, 0x31, 0x0D, 0x0A] = .instr .selEms8 ∧
    decode Config.default 10 #v[0x31, 0x31, 0x30, 0x30, 0x31, 0x30, 0x30, 0x30, 0x0D, 0x0A] = .instr .selEms9 ∧
    decode Config.default 10 #v[0x31, 0x31, 0x30, 0x30, 0x31, 0x30, 0x30, 0x31, 0x0D, 0x0A] = .instr .selEms10 ∧
    decode Config.default 10 #v[0x31, 0x31, 0x30, 0x30, 0x31, 0x30, 0x31, 0x30, 0x0D, 0x0A] = .instr .selEms11 ∧
    decode Config.default 10 #v[0x31, 0x31, 0x30, 0x30, 0x31, 0x30, 0x31, 0x31, 0x0D, 0x0A] = .instr .selEms12 ∧
    decode Config.default 10 #v[0x31, 0x31, 0x30, 0x30, 0x31, 0x31, 0x30, 0x30, 0x0D, 0x0A] = .instr .selEms13 ∧
    decode Config.default 10 #v[0x31, 0x31, 0x30, 0x30, 0x31, 0x31, 0x30, 0x31, 0x0D, 0x0A] = .instr .selEms14 ∧
    decode Config.default 10 #v[0x31, 0x31, 0x30, 0x30, 0x31, 0x31, 0x31, 0x30, 0x0D, 0x0A] = .instr .selEms15 ∧
    decode Config.default 10 #v[0x31, 0x31, 0x30, 0x30, 0x31, 0x31, 0x31, 0x31, 0x0D, 0x0A] = .instr .selEms16 := by
  decide

theorem test_decode_sel_dfs :
    decode Config.default 10 #v[0x31, 0x31, 0x30, 0x31, 0x30, 0x30, 0x30, 0x30, 0x0D, 0x0A] = .instr .selDfs1 ∧
    decode Config.default 10 #v[0x31, 0x31, 0x30, 0x31, 0x30, 0x30, 0x30, 0x31, 0x0D, 0x0A] = .instr .selDfs2 ∧
    decode Config.default 10 #v[0x31, 0x31, 0x30, 0x31, 0x30, 0x30, 0x31, 0x30, 0x0D, 0x0A] = .instr .selDfs3 ∧
    decode Config.default 10 #v[0x31, 0x31, 0x30, 0x31, 0x30, 0x30, 0x31, 0x31, 0x0D, 0x0A] = .instr .selDfs4 ∧
    decode Config.default 10 #v[0x31, 0x31, 0x30, 0x31, 0x30, 0x31, 0x30, 0x30, 0x0D, 0x0A] = .instr .selDfs5 ∧
    decode Config.default 10 #v[0x31, 0x31, 0x30, 0x31, 0x30, 0x31, 0x30, 0x31, 0x0D, 0x0A] = .instr .selDfs6 ∧
    decode Config.default 10 #v[0x31, 0x31, 0x30, 0x31, 0x30, 0x31, 0x31, 0x30, 0x0D, 0x0A] = .instr .selDfs7 ∧
    decode Config.default 10 #v[0x31, 0x31, 0x30, 0x31, 0x30, 0x31, 0x31, 0x31, 0x0D, 0x0A] = .instr .selDfs8 ∧
    decode Config.default 10 #v[0x31, 0x31, 0x30, 0x31, 0x31, 0x30, 0x30, 0x30, 0x0D, 0x0A] = .instr .selDfs9 ∧
    decode Config.default 10 #v[0x31, 0x31, 0x30, 0x31, 0x31, 0x30, 0x30, 0x31, 0x0D, 0x0A] = .instr .selDfs10 ∧
    decode Config.default 10 #v[0x31, 0x31, 0x30, 0x31, 0x31, 0x30, 0x31, 0x30, 0x0D, 0x0A] = .instr .selDfs11 ∧
    decode Config.default 10 #v[0x31, 0x31, 0x30, 0x31, 0x31, 0x30, 0x31, 0x31, 0x0D, 0x0A] = .instr .selDfs12 ∧
    decode Config.default 10 #v[0x31, 0x31, 0x30, 0x31, 0x31, 0x31, 0x30, 0x30, 0x0D, 0x0A] = .instr .selDfs13 ∧
    decode Config.default 10 #v[0x31, 0x31, 0x30, 0x31, 0x31, 0x31, 0x30, 0x31, 0x0D, 0x0A] = .instr .selDfs14 ∧
    decode Config.default 10 #v[0x31, 0x31, 0x30, 0x31, 0x31, 0x31, 0x31, 0x30, 0x0D, 0x0A] = .instr .selDfs15 ∧
    decode Config.default 10 #v[0x31, 0x31, 0x30, 0x31, 0x31, 0x31, 0x31, 0x31, 0x0D, 0x0A] = .instr .selDfs16 := by
  decide

theorem test_decode_others :
    decode Config.default 10 fSleep = .instr .sleep ∧
    decode (cfgOne .clearAll) 10 fCfg1 = .instr (.cfg 1) ∧
    decode Config.default 10 #v[0x31, 0x30, 0x31, 0x31, 0x31, 0x31, 0x31, 0x31, 0x0D, 0x0A] = .instr (.cfgUnknown 0x3F) ∧
    decode Config.default 10 #v[0x31, 0x31, 0x31, 0x30, 0x31, 0x31, 0x31, 0x31, 0x0D, 0x0A] = .instr (.rsvGrp2 0xF) ∧
    decode Config.default 10 #v[0x31, 0x31, 0x31, 0x31, 0x30, 0x30, 0x30, 0x30, 0x0D, 0x0A] = .instr (.rsvGrp3 0x0) ∧
    decode Config.default 10 #v[0x30, 0x31, 0x30, 0x30, 0x30, 0x30, 0x30, 0x30, 0x0D, 0x0A] = .instr (.noSentinel 0x40) ∧
    decode Config.default 10 fWide = .instr (.overWide 0x81) := by decide

/-- Table words: the word is the value; the host's placing runs it at once. A tenth bit has no frame. -/
theorem test_table_words :
    decodeTableWord 8 0xC0 = some .selEms1 ∧ decodeTableWord 8 0xDF = some .selDfs16 ∧
    decodeTableWord 8 0x80 = some .sleep ∧ decodeTableWord 8 0x81 = some (.cfgUnknown 1) ∧
    decodeTableWord 9 0x1FF = some (.overWide 0xFF) ∧ decodeTableWord 10 0x200 = none := by decide

theorem test_fetch_word_runs :
    nextState (step (State.reset.withFetchWord 8 0xC4)) = some { State.reset.withFetchWord 8 0xC4 with
      phase := .resolved, result := { mapped := .select .ems 4, t := some 8, v := some 0xC4 } } := by decide

/-! ## Whole cycles as the function of R123: LINES, DIAG, DRAIN -/

/-- V-F1, V-F3, V-F4, V-F5: frame errors leave 0x100000001 and drain. -/
theorem test_frame_errors :
    cycle Config.default 0x100000001 1 #v[0x0A, 0, 0, 0, 0, 0, 0, 0, 0, 0] = (0x100000001, ⟨0x8, 0, 0, 0, 0, 0⟩, true) ∧
    cycle Config.default 0x100000001 9 fNoTerm = (0x100000001, ⟨0x8, 0, 0, 0, 0, 0⟩, true) ∧
    cycle Config.default 0x100000001 10 fLf = (0x100000001, ⟨0x9, 0, 0, 0, 0, 0⟩, true) ∧
    cycle Config.default 0x100000001 10 fNoTerm = (0x100000001, ⟨0x9, 0, 0, 0, 0, 0⟩, true) := by decide

/-- V-F7, V-F8: an LF at 8 is accepted, a CR at 7 ends a seven-digit token. -/
theorem test_terminator_place :
    cycle Config.default 0x100000001 10 #v[0x31, 0x30, 0x30, 0x30, 0x30, 0x30, 0x30, 0x30, 0x0A, 0x58]
      = (0, ⟨0x1, 1, 0x80, 0, 0, 0⟩, false) ∧
    cycle Config.default 0x100000001 10 #v[0x31, 0x30, 0x30, 0x30, 0x30, 0x30, 0x30, 0x0D, 0x0A, 0x31]
      = (0x100000001, ⟨0xB, 1, 0x40, 0, 0, 0⟩, true) := by decide

/-- V-P2, V-P6, V-P7, V-P9, V-P10: sign, prefix, over-wide, leading zero, one digit. -/
theorem test_parse :
    cycle Config.default 0x200010000 10 fSign = (0x200010000, ⟨0xA, 0, 0, 0, 0, 0⟩, true) ∧
    cycle Config.default 0x200010000 10 fPrefix = (0x200010000, ⟨0xB, 1, 0x40, 0, 0, 0⟩, true) ∧
    cycle Config.default 0x200010000 10 fWide = (0x200010000, ⟨0xB, 1, 0x181, 0, 0, 0⟩, true) ∧
    cycle Config.default 0x200010000 10 fNine = (0x100000001, ⟨0x0, 1, 0xC0, 0, 1, 0⟩, true) ∧
    cycle Config.default 0x200010000 10 fOne = (0x200010000, ⟨0xB, 1, 1, 0, 0, 0⟩, true) := by decide

/-- V-C1, V-C3, V-C6, V-C7, V-R1, V-S32. -/
theorem test_commands :
    cycle Config.default 0x100000001 10 fSleep = (0, ⟨0x1, 1, 0x80, 0, 0, 0⟩, false) ∧
    cycle Config.default 0x100000001 10 fCfg1 = (0x100000001, ⟨0xD, 1, 0x81, 0, 0, 1⟩, true) ∧
    cycle (cfgOne .clearAll) 0x100000001 10 fCfg1 = (0, ⟨0x1, 1, 0x81, 0, 0, 1⟩, false) ∧
    cycle (cfgOne .noWrite) 0x100000001 10 fCfg1 = (0x100000001, ⟨0x2, 1, 0x81, 0, 0, 1⟩, false) ∧
    cycle Config.default 0x200010000 10 fRsv = (0x200010000, ⟨0xC, 1, 0xE0, 0, 0, 0⟩, true) ∧
    cycle Config.default 0x3FFFFFFFF 10 fDfs16 = (0x280000000, ⟨0x0, 1, 0xDF, 1, 16, 0⟩, false) := by decide

/-! ## Single steps -/

/-- V-W1: the three writes of `SEL DFS,16` from 0x100000001, each as one step. -/
theorem test_write_steps :
    nextState (step (resolved (.select .dfs 15) 8 0xDF 0 0x100000001)) =
      some { resolved (.select .dfs 15) 8 0xDF 1 0 with
        out := [.lineWr .clearAll [⟨0, 0⟩]] } ∧
    nextState (step (resolved (.select .dfs 15) 8 0xDF 1 0)) =
      some { resolved (.select .dfs 15) 8 0xDF 2 0x080000000 with out := [.lineWr (.set 31) [⟨0, 32⟩]] } ∧
    nextState (step (resolved (.select .dfs 15) 8 0xDF 2 0x080000000)) =
      some { resolved (.select .dfs 15) 8 0xDF 3 0x280000000 with out := [.lineWr (.set 33) [⟨0, 34⟩]] } := by
  decide

/-- V-W1's last column: EXCL holds, fails, holds. -/
theorem test_excl : excl 0 = true ∧ excl 0x080000000 = false ∧ excl 0x280000000 = true ∧
    excl 0x3FFFFFFFF = false ∧ excl 0x100000000 = false ∧ excl 0x100000003 = false := by decide

/-- The accept of P4's first read (21 bytes held, 10 taken). -/
theorem test_accept_takes_ten :
    nextState (step (waiting (fWide.toList ++ [0x0A] ++ fEms1.toList) [.read 10 blank])) =
      some { waiting ([0x0A] ++ fEms1.toList) [] with phase := .decoding, fn := 10, fb := fWide } := by decide

/-- P4: the drain of a rejected cycle discards what is held. -/
theorem test_rejected_completion_drains :
    nextState (step { rejected .peBitWidth (some 0x181) with residual := [0x0A, 0x31] }) =
      some { State.reset with
        result := { mapped := .err .peBitWidth, t := some 8, v := some 0x181 }
        diag := ⟨0xB, 1, 0x181, 0, 0, 0⟩
        drain := true
        out := [.diag ⟨0xB, 1, 0x181, 0, 0, 0⟩, .drain] } := by decide

/-- V-F2: an empty poll is a read of no byte, and its decode is short or empty. -/
theorem test_empty_poll :
    nextState (step (latched Config.default 0x100000001 0 blank)) =
      some { latched Config.default 0x100000001 0 blank with
        phase := .rejected, result := { mapped := .err .feShortOrEmpty, t := none, v := none } } := by decide

/-! ## Witnesses: each obligation's hypotheses are met

Named for the obligation; where a statement has several clauses, one state per clause. -/

/-- Also for PorKeepsTheTransport. -/
theorem witness_PorTakesResetValues :
    { State.reset with por := true }.por = true ∧ { State.reset with por := true }.phase = .idle ∧
      { State.reset with por := true }.out = [] := by decide

theorem witness_PorRefusedOnceACycleRuns :
    (∀ p : Phase, p ≠ .idle →
      { State.reset with por := true, phase := p }.por = true ∧
        stopped (step { State.reset with por := true, phase := p }) = some (.inr .resetInsideCycle)) ∧
    { State.reset with por := true, out := [.diag Diag.zero] }.phase = .idle ∧
    stopped (step { State.reset with por := true, out := [.diag Diag.zero] }) = some (.inr .warmReset) := by
  refine ⟨fun p => ?_, by decide, by decide⟩
  cases p <;> decide

/-- Also for CycleIsTheComposition: a full read and a short one, and the bytes latched. -/
theorem witness_AcceptLatchesTheRead :
    (waiting fEms1.toList [.read 10 blank]).por = false ∧
    (waiting fEms1.toList [.read 10 blank]).phase = .idle ∧
    (waiting fEms1.toList [.read 10 blank]).inputs = [.read 10 blank] ∧
    (readCount 10 fEms1.toList).val = 10 ∧ (readCount 10 [0x31]).val = 1 := by decide

theorem witness_IdleWaitsForARead :
    ((waiting [] []).por = false ∧ (waiting [] []).phase = .idle ∧ (waiting [] []).inputs = []) ∧
    ((waiting [] [.receive [0x31]]).por = false ∧ (waiting [] [.receive [0x31]]).phase = .idle ∧
      (waiting [] [.receive [0x31]]).inputs = .receive [0x31] :: []) := by decide

theorem witness_StepRunsTheCommand :
    ((latched Config.default 0 10 fEms1).por = false ∧ (latched Config.default 0 10 fEms1).phase = .decoding ∧
      decode Config.default 10 fEms1 = .instr .selEms1) ∧
    ((latched Config.default 0 10 fLf).phase = .decoding ∧
      decode Config.default 10 fLf = .reject .termOutOfRange) ∧
    ((resolved (.select .ems 0) 8 0xC0 0 0).phase = .resolved ∧
      (resolved (.select .ems 0) 8 0xC0 0 0).result.command = some .selEms1) ∧
    ((rejected .ueReservedGroup (some 0xE0)).phase = .rejected ∧
      (rejected .ueReservedGroup (some 0xE0)).result.command = some (.rsvGrp2 0)) ∧
    decode State.reset.cfg 10 (tableFrame 8 0xC0) = .instr .selEms1 := by decide

/-- Also for CycleEndState, PorRefusedOnceACycleRuns (its last clause), EveryCycleEnds, CyclesAreIdempotent, ExclusionAtCycleEnds, NoFrameIsAcceptedDuringACycle. -/
theorem witness_DecodeLatchesTheMappedResult :
    ((latched Config.default 0 10 fEms1).por = false ∧ (latched Config.default 0 10 fEms1).phase = .decoding ∧
      (channelMap Config.default (rawDecode 10 fEms1)).isErr = false) ∧
    ((latched Config.default 0 10 fRsv).por = false ∧ (latched Config.default 0 10 fRsv).phase = .decoding ∧
      (channelMap Config.default (rawDecode 10 fRsv)).isErr = true) := by decide

/-- Also for OnlyALineWriteChangesLines: the write changes LINES. -/
theorem witness_WriteStepPerformsTheNextWrite :
    (resolved (.select .ems 0) 8 0xC0 2 0x1).por = false ∧
    (resolved (.select .ems 0) 8 0xC0 2 0x1).phase = .resolved ∧
    writeSeq (.select .ems 0) = some [.clearAll, .set 0, .set 32] ∧
    [LineWrite.clearAll, .set 0, .set 32][(2 : BitVec 2).toNat]? = some (.set 32) ∧
    (nextState (step (resolved (.select .ems 0) 8 0xC0 2 0x1)) =
      some { resolved (.select .ems 0) 8 0xC0 3 0x100000001 with out := [.lineWr (.set 32) [⟨0, 33⟩]] }) := by
  decide

/-- A Selection after three writes with and without a drain, a clear after one, no write. -/
theorem witness_ResolvedCompletion :
    (∀ t : Fin 10, (resolved (.select .ems 0) t 0xC0 3 0x100000001).phase = .resolved ∧
      (resolved (.select .ems 0) t 0xC0 3 0x100000001).por = false ∧
      (3 : BitVec 2).toNat = [LineWrite.clearAll, .set 0, .set 32].length) ∧
    (writeSeq (.config 0 .clearAll) = some [.clearAll] ∧ (1 : BitVec 2).toNat = [LineWrite.clearAll].length) ∧
    (writeSeq (.config 1 .noWrite) = some [] ∧ (0 : BitVec 2).toNat = ([] : List LineWrite).length) := by decide

theorem witness_RejectedCompletion :
    (rejected .ueConfig (some 0x81)).por = false ∧ (rejected .ueConfig (some 0x81)).phase = .rejected := by decide

theorem witness_DecodeOfEncode :
    Instr.selDfs16.wf Config.default = true ∧ (Instr.cfg 1).wf (cfgOne .noWrite) = true ∧
      (Instr.cfgUnknown 1).wf Config.default = true := by decide

theorem witness_DecodedCommandsAreWellFormed :
    decode (cfgOne .noWrite) 10 fCfg1 = .instr (.cfg 1) := by decide

/-- Both ends of every row of the opcode map, and both outcomes of the config row. -/
theorem witness_OpcodeMap :
    decode Config.default 10 (frameOf 0x00) = .instr (.noSentinel 0x00) ∧
    decode Config.default 10 (frameOf 0x7F) = .instr (.noSentinel 0x7F) ∧
    decode Config.default 10 (frameOf 0x80) = .instr .sleep ∧
    (Config.default.action 0x01 = none ∧ decode Config.default 10 (frameOf 0x81) = .instr (.cfgUnknown 0x01)) ∧
    (Config.default.action 0x3F = none ∧ decode Config.default 10 (frameOf 0xBF) = .instr (.cfgUnknown 0x3F)) ∧
    ((cfgOne .noWrite).action 0x01 = some .noWrite ∧
      decode (cfgOne .noWrite) 10 (frameOf 0x81) = .instr (.cfg 0x01)) ∧
    decode Config.default 10 (frameOf 0xC0) = .instr .selEms1 ∧
    decode Config.default 10 (frameOf 0xCF) = .instr .selEms16 ∧
    decode Config.default 10 (frameOf 0xD0) = .instr .selDfs1 ∧
    decode Config.default 10 (frameOf 0xDF) = .instr .selDfs16 ∧
    decode Config.default 10 (frameOf 0xE0) = .instr (.rsvGrp2 0x0) ∧
    decode Config.default 10 (frameOf 0xEF) = .instr (.rsvGrp2 0xF) ∧
    decode Config.default 10 (frameOf 0xF0) = .instr (.rsvGrp3 0x0) ∧
    decode Config.default 10 (frameOf 0xFF) = .instr (.rsvGrp3 0xF) ∧
    decode Config.default 10 (frameOf 0x100) = .instr (.overWide 0x00) ∧
    decode Config.default 10 (frameOf 0x1FF) = .instr (.overWide 0xFF) := by decide

/-- The last clause of `cfg` at its upper end: `CFG_RECOGNISED = {0, 0x3F}`. -/
theorem witness_OpcodeMap_cfg_end :
    decode { Config.default with cfgExtra := [(0x3F, .clearAll)] } 10 (frameOf 0xBF) = .instr (.cfg 0x3F) := by
  decide

/-- One frame for each clause: a short read, no terminator, LF first, CR first, a non-digit first. -/
theorem witness_FrameErrors :
    (9 < 10 ∧ 0 < 10) ∧
    (∀ (i : Nat) (h : i < 10), fNoTerm[i] ≠ 0x0D ∧ fNoTerm[i] ≠ 0x0A) ∧
    fLf[0] = 0x0A ∧ (#v[0x0D, 0, 0, 0, 0, 0, 0, 0, 0, 0] : Frame)[0] = 0x0D ∧
    ((∃ (i : Nat) (h : i < 10), fSign[i] = 0x0D ∨ fSign[i] = 0x0A) ∧ fSign[0] ≠ 0x0D ∧ fSign[0] ≠ 0x0A ∧
      fSign[0] ≠ 0x30 ∧ fSign[0] ≠ 0x31) := by
  refine ⟨by decide, by decide, by decide, by decide, ⟨8, by decide, by decide⟩, by decide, by decide, by decide, by decide⟩

/-- Terminators at 1, at 8 and at 9. -/
theorem witness_TokenEndsAtTheFirstTerminator :
    (fOne[1] = 0x0D ∧ ∀ (i : Nat) (hi : i < 1), fOne[i] ≠ 0x0D ∧ fOne[i] ≠ 0x0A) ∧
    (fEms1[8] = 0x0D ∧ ∀ (i : Nat) (hi : i < 8), fEms1[i] ≠ 0x0D ∧ fEms1[i] ≠ 0x0A) ∧
    (fNine[9] = 0x0D ∧ ∀ (i : Nat) (hi : i < 9), fNine[i] ≠ 0x0D ∧ fNine[i] ≠ 0x0A) := by decide

/-- A prefix that is the whole token and one that ends before it. -/
theorem witness_ParsedValueIsTheDigitSum :
    (checkFrame 10 fNine = .ok 9 ∧ ∀ j, j < 9 → fNine.toList.getD j 0 = 0x30 ∨ fNine.toList.getD j 0 = 0x31) ∧
    (checkFrame 10 fPrefix = .ok 8 ∧
      (∀ j, j < 7 → fPrefix.toList.getD j 0 = 0x30 ∨ fPrefix.toList.getD j 0 = 0x31) ∧
      fPrefix.toList.getD 7 0 ≠ 0x30 ∧ fPrefix.toList.getD 7 0 ≠ 0x31) := by decide

/-- Both ends of every range. -/
theorem witness_WidthAndSentinelDecideTheCategory :
    classifyValue 0 8 = .parseErr .bitWidth (some 0) ∧ classifyValue 127 8 = .parseErr .bitWidth (some 127) ∧
    classifyValue 128 8 = .cfgRaw 128 8 ∧ classifyValue 191 8 = .cfgRaw 191 8 ∧
    classifyValue 192 8 = .selRaw 192 8 ∧ classifyValue 255 8 = .selRaw 255 8 ∧
    classifyValue 256 9 = .parseErr .bitWidth (some 256) ∧
    classifyValue 511 9 = .parseErr .bitWidth (some 511) := by decide

/-- V-P11 against V-S1: the bytes after the CR at 8 differ. -/
theorem witness_BytesFromTheTerminatorOnAreIgnored :
    checkFrame 10 fEms1 = .ok 8 ∧
    checkFrame 10 #v[0x31, 0x31, 0x30, 0x30, 0x30, 0x30, 0x30, 0x30, 0x0D, 0x0D] = .ok 8 ∧
    ∀ (j : Nat) (h : j < 10), j < 8 → fEms1[j] =
      (#v[0x31, 0x31, 0x30, 0x30, 0x30, 0x30, 0x30, 0x30, 0x0D, 0x0D] : Frame)[j] := by decide

/-- t = 1, t = 9 over-wide, and t = 9 beside t = 8 for the leading zero. -/
theorem witness_TokenLengthCorners :
    (checkFrame 10 fOne = .ok 1 ∧ fOne[0] = 0x31) ∧
    (checkFrame 10 fWide = .ok 9 ∧ fWide[0] = 0x31 ∧ ∀ (j : Nat) (h : j < 9), fWide[j] = 0x30 ∨ fWide[j] = 0x31) ∧
    (checkFrame 10 fNine = .ok 9 ∧ checkFrame 10 fEms1 = .ok 8 ∧ fNine[0] = 0x30 ∧
      ∀ (j : Nat) (h : j < 8), (fEms1[j] = 0x30 ∨ fEms1[j] = 0x31) ∧ fNine[j + 1] = fEms1[j]) := by decide

/-- Opcodes 0xC0, 0xDF, 0xE0 for the bit clauses; 0x81 recognised and not. -/
theorem witness_ChannelMapLookup :
    ((0xC0 : Opcode).getLsbD 5 = false ∧ (0xC0 : Opcode).getLsbD 4 = false ∧
      ((0xC0 : Opcode).getLsbD 4 = true ↔ AntennaGroup.ems = .dfs)) ∧
    ((0xDF : Opcode).getLsbD 5 = false ∧ (0xDF : Opcode).getLsbD 4 = true ∧
      ((0xDF : Opcode).getLsbD 4 = true ↔ AntennaGroup.dfs = .dfs)) ∧
    (0xE0 : Opcode).getLsbD 5 = true ∧
    (cfgOne .noWrite).action ((0x81 : Opcode).setWidth 6) = some .noWrite ∧
    Config.default.action ((0x81 : Opcode).setWidth 6) = none := by decide

theorem witness_UnknownCodesAreRejectedExplicitly :
    (rawDecode 10 fRsv = .selRaw 0xE0 8 ∧ (0xE0 : Opcode).getLsbD 5 = true) ∧
    (rawDecode 10 fCfg1 = .cfgRaw 0x81 8 ∧ Config.default.action ((0x81 : Opcode).setWidth 6) = none) := by decide

/-- The states of a Selection row, for every group and chain: the latch of its frame, WSEQ 0 to 3. -/
theorem witness_SelRow : ∀ (g : AntennaGroup) (idx : Fin 16),
    (latched Config.default 0 10 (encode (selInstr g idx))).Latched (encode (selInstr g idx)) ∧
    ∀ w : BitVec 2, (resolved (.select g idx) 8 (selInstr g idx).value w 0).phase = .resolved ∧
      (resolved (.select g idx) 8 (selInstr g idx).value w 0).result.mapped = .select g idx ∧
      (resolved (.select g idx) 8 (selInstr g idx).value w 0).wseq = w ∧
      (resolved (.select g idx) 8 (selInstr g idx).value w 0).result.v = some (selInstr g idx).value :=
  fun _ _ => ⟨⟨rfl, rfl, rfl, rfl⟩, fun _ => ⟨rfl, rfl, rfl, rfl⟩⟩

/-- The states of `sleep` and of `cfg 1` under both actions. -/
theorem witness_ConfigRow :
    (decode Config.default 10 fSleep = .instr .sleep ∧ Config.default.action 0 = some .clearAll) ∧
    (∀ act ∈ [CfgAction.clearAll, .noWrite],
      (cfgOne act).action 1 = some act ∧ decode (cfgOne act) 10 fCfg1 = .instr (.cfg 1) ∧
      (latched (cfgOne act) 0 10 fCfg1).phase = .decoding ∧ (latched (cfgOne act) 0 10 fCfg1).por = false) ∧
    ((resolved (.config 1 .clearAll) 8 0x81 0 0).wseq = 0 ∧
      (resolved (.config 1 .clearAll) 8 0x81 1 0).wseq.toNat = (configWrites .clearAll).length ∧
      (resolved (.config 1 .noWrite) 9 0x81 0 0).wseq.toNat = (configWrites .noWrite).length) := by decide

/-- The states of the rejected rows: the frame of each, and its latched result. -/
theorem witness_RejectRow :
    (decode Config.default 10 (encode (.cfgUnknown 0x3F)) = .instr (.cfgUnknown 0x3F) ∧
     decode Config.default 10 (encode (.rsvGrp2 0xF)) = .instr (.rsvGrp2 0xF) ∧
     decode Config.default 10 (encode (.rsvGrp3 0x0)) = .instr (.rsvGrp3 0x0) ∧
     decode Config.default 10 (encode (.noSentinel 0x00)) = .instr (.noSentinel 0x00) ∧
     decode Config.default 10 (encode (.overWide 0xFF)) = .instr (.overWide 0xFF)) ∧
    (rejected .peBitWidth (some 0x1FF)).phase = .rejected ∧
    (rejected .peBitWidth (some 0x1FF)).result.mapped = .err .peBitWidth ∧
    (rejected .peBitWidth (some 0x1FF)).result.v = some 0x1FF := by decide

/-- Each way a frame is no command. -/
theorem witness_FrameErrorCycle :
    decode Config.default 9 fEms1 = .reject .shortOrEmpty ∧
    decode Config.default 10 fNoTerm = .reject .termOutOfRange ∧
    decode Config.default 10 fSign = .reject .nonBinary := by decide

/-- W4 and V-F2: three bytes held, and none. -/
theorem witness_SplitFrameIsLost :
    ((waiting [0x31, 0x0D, 0x0A] [.read 10 blank]).inputs = .read 10 blank :: [] ∧
      min (10 : Fin 11).val [(0x31 : Byte), 0x0D, 0x0A].length < 10) ∧
    ((waiting [] [.read 10 blank]).inputs = .read 10 blank :: [] ∧
      min (10 : Fin 11).val ([] : List Byte).length < 10) := by decide

/-- The states of the invariants: inside the write sequence of `SEL EMS,1`, after its second write. -/
def midSelect : State :=
  { latched Config.default 0x1 10 fEms1 with
    phase := .resolved, wseq := 2, result := resultOf Config.default 10 fEms1
    out := [.lineWr .clearAll [⟨0, 0⟩], .lineWr (.set 0) [⟨0, 1⟩], .diag (selDiag 0xC0 .ems 1)] }

theorem midSelect_writeSeq :
    writeSeq midSelect.result.mapped = some [.clearAll, .set 0, .set 32] := by decide

theorem witness_SequencingIsKept : midSelect.Sequenced where
  wseq_zero := fun h => absurd rfl h
  latched := fun _ => rfl
  resolved := fun _ => ⟨_, midSelect_writeSeq, by decide⟩
  rejected := fun h => nomatch h

theorem witness_ExclusionIsKept : midSelect.Exclusive where
  init := by decide
  outside := fun h => absurd rfl h
  inside := fun _ => ⟨0x200010000, _, by decide, midSelect_writeSeq, by decide, by decide⟩

theorem witness_LinesReplayTheWrites : midSelect.Replayed := by
  unfold State.Replayed
  decide

theorem witness_OutcomeCodesAreListed : midSelect.CodesListed := by
  intro d hd
  simp only [midSelect, List.mem_cons, OutEvent.diag.injEq, reduceCtorEq, List.not_mem_nil, or_false,
    false_or] at hd
  subst hd
  decide

/-- A step from `midSelect` answers a next state inside the cycle (the premise of the statements on steps). -/
theorem witness_steps : ∃ t, step midSelect = .next t ∧ t.lines ≠ midSelect.lines ∧ midSelect.por = false :=
  ⟨midSelect.writeStep (.set 32), rfl, by decide, by decide⟩

/-- ExclusionAtCycleEnds: an exclusive start, and the outcomes OK_SELECT and OK_CLEAR of its last clause. -/
theorem witness_ExclusionAtCycleEnds :
    excl (latched Config.default 0x200010000 10 fEms1).lines = true ∧
    (cycle Config.default 0x3FFFFFFFF 10 fEms1).2.1.outcome = 0x0 ∧
    (cycle Config.default 0x3FFFFFFFF 10 fSleep).2.1.outcome = 0x1 := by decide

/-- Also for CyclesAreIdempotent, with a SLEEP for its ClearAll clause. -/
theorem witness_SelectionAssertsExactlyItsLines :
    channelMap Config.default (rawDecode 10 fEms1) = .select .ems 0 ∧
    channelMap Config.default (rawDecode 10 fDfs16) = .select .dfs 15 ∧
    channelMap Config.default (rawDecode 10 fSleep) = .config 0 .clearAll := by decide

theorem witness_RejectedCycleWritesNoLine :
    channelMap Config.default (rawDecode 10 fRsv) = .err .ueReservedGroup ∧
    channelMap Config.default (rawDecode 9 fRsv) = .err .feShortOrEmpty := by decide

/-- DrainDecision, DrainEmptiesTheTransport, OneRecordPerCycle: the last step of a Selection with a drain, of one
without, and of a rejection, each ending in IDLE; and the accept that clears DRAIN. -/
theorem witness_DrainDecision :
    (∃ t, step (resolved (.select .ems 0) 9 0xC0 3 0x100000001) = .next t ∧ t.phase = .idle ∧ t.drain = true) ∧
    (∃ t, step (resolved (.select .ems 0) 8 0xC0 3 0x100000001) = .next t ∧ t.phase = .idle ∧ t.drain = false) ∧
    (∃ t, step (rejected .ueConfig (some 0x81)) = .next t ∧ t.phase = .idle ∧ t.drain = true) ∧
    (∃ t, step { waiting [] [.read 10 blank] with drain := true } = .next t ∧ t.drain ≠ true) :=
  ⟨⟨_, rfl, rfl, rfl⟩, ⟨_, rfl, rfl, rfl⟩, ⟨_, rfl, rfl, rfl⟩, ⟨_, rfl, by decide⟩⟩

theorem witness_CommandFrame :
    (∃ t, exec .selEms1 (latched Config.default 0 10 fEms1) = .next t ∧ t.phase = .resolved) ∧
    (∃ t, exec .selEms1 (resolved (.select .ems 0) 8 0xC0 0 0) = .next t ∧ t.phase = .resolved) ∧
    (∃ t, exec .selEms1 (resolved (.select .ems 0) 8 0xC0 3 0x100000001) = .next t ∧ t.phase = .idle) ∧
    (∃ t, exec (.rsvGrp2 0) (rejected .ueReservedGroup (some 0xE0)) = .next t ∧ t.phase = .idle) :=
  ⟨⟨_, rfl, rfl⟩, ⟨_, rfl, rfl⟩, ⟨_, rfl, rfl⟩, ⟨_, rfl, rfl⟩⟩

/-- The one fault is met only outside the sequencing invariant: RESOLVED past its sequence. -/
theorem witness_StepsNeverRefuseACommand :
    stopped (step (resolved (.config 0 .clearAll) 8 0x80 2 0)) = some (.inl .noEnabledTransition) ∧
    (resolved (.config 0 .clearAll) 8 0x80 2 0).por = false := by decide

/-- Parameters over three slots: the last line is slot 2, channel 2, and CLEAR_ALL goes to each slot once. -/
theorem witness_PhysicalAddresses :
    ∃ k : Config, (LineWrite.set 33).addrs k = [⟨2, 2⟩] ∧
      LineWrite.clearAll.addrs k = [⟨0, 0⟩, ⟨1, 0⟩, ⟨2, 0⟩] :=
  ⟨{ Config.default with
      lineAddr := Vector.ofFn (fun k => ⟨k.val / 16, k.val % 16 + 1⟩)
      addrOk := by decide }, by decide, by decide⟩

/-- ResetMeetsTheInvariants' last clause at a launch level other than 0. -/
theorem witness_ResetMeetsTheInvariants :
    excl { Config.default with initLines := 0x100000001 }.initLines = true := by decide

end Sys2Proof.Tests
end

section
/-! PROOFS. The decode transition: what the decoder answers, which command it is, and what that command
latches (R80 to R90, R105, R112). -/

namespace Sys2Proof

/-! ## What a decoder result can be (R87 to R90) -/

/-- The width and sentinel facts behind each decoder result: a value rejected for its width has a ninth bit
or no sentinel bit 7, an accepted opcode has the sentinel and its category in bit 6 (R89, R90). -/
def Raw.Classified : Raw → Prop
  | .frameErr _ => True
  | .parseErr .nonBinary v => v = none
  | .parseErr .bitWidth v => ∃ w, v = some w ∧ (w.getLsbD 8 = true ∨ w.getLsbD 7 = false)
  | .selRaw op _ => op.getLsbD 7 = true ∧ op.getLsbD 6 = true
  | .cfgRaw op _ => op.getLsbD 7 = true ∧ op.getLsbD 6 = false

theorem classifyValue_classified {v : Nat} (hv : v < 512) (t : Nat) : (classifyValue v t).Classified := by
  unfold classifyValue
  split
  next hbad =>
    refine ⟨_, rfl, ?_⟩
    simp only [Bool.or_eq_true, decide_eq_true_eq, Bool.not_eq_true'] at hbad
    refine hbad.imp (fun hwide => ?_) (fun h7 => by rw [BitVec.getLsbD_ofNat, h7, Bool.and_false])
    have h8 : v / 2 ^ 8 % 2 = 1 := by omega
    rw [BitVec.getLsbD_ofNat, Nat.testBit_eq_decide_div_mod_eq, h8]
    rfl
  next hgood =>
    have h7 : (BitVec.ofNat 8 v).getLsbD 7 = true := by
      rw [BitVec.getLsbD_ofNat]
      simp_all
    dsimp only
    split
    next h6 => exact ⟨h7, h6⟩
    next h6 => exact ⟨h7, Bool.eq_false_iff.mpr h6⟩

theorem rawDecode_classified (n : Nat) (b : Frame) : (rawDecode n b).Classified := by
  unfold rawDecode
  split
  · trivial
  next t ht =>
    dsimp only
    split
    · trivial
    · split
      · exact classifyValue_classified (windowValue_lt ht) t
      · rfl

/-! ## The command of a decoder result spells its value (R67, R88) -/

theorem badValueOf_value {v : Value} (h : v.getLsbD 8 = true ∨ v.getLsbD 7 = false) :
    (badValueOf v).value = v := by
  revert v
  decide

theorem selOf_value {op : Opcode} (h7 : op.getLsbD 7 = true) (h6 : op.getLsbD 6 = true) :
    (selOf op).value = op.setWidth 9 := by
  revert op
  decide

theorem cfgOf_value (k : Config) {op : Opcode} (h7 : op.getLsbD 7 = true) (h6 : op.getLsbD 6 = false) :
    (cfgOf k op).value = op.setWidth 9 := by
  have spelled : ∀ op : Opcode, op.getLsbD 7 = true → op.getLsbD 6 = false →
      0x80 ||| (op.setWidth 6).setWidth 9 = op.setWidth 9 := by decide
  rw [← spelled op h7 h6]
  unfold cfgOf
  dsimp only
  split
  next hsub => rw [hsub]; rfl
  next => split <;> rfl

end Sys2Proof

namespace Sys2Proof.Machine

/-! ## The latch of the decode transition (R112) -/

/-- What R112 latches for the decoder result `r`: RESULT maps it, WSEQ is 0, PHASE tells an action from an
error. -/
def State.latch (r : Raw) (s : State) : State :=
  { s with
    result := { mapped := channelMap s.cfg r, t := s.term, v := r.value }
    wseq := 0
    phase := if (channelMap s.cfg r).isErr then .rejected else .resolved }

section
variable (s : State) (r : Raw)

@[simp] theorem State.latch_cfg : (s.latch r).cfg = s.cfg := rfl
@[simp] theorem State.latch_phase :
    (s.latch r).phase = if (channelMap s.cfg r).isErr then .rejected else .resolved := rfl
@[simp] theorem State.latch_wseq : (s.latch r).wseq = 0 := rfl
@[simp] theorem State.latch_fn : (s.latch r).fn = s.fn := rfl
@[simp] theorem State.latch_fb : (s.latch r).fb = s.fb := rfl
@[simp] theorem State.latch_result :
    (s.latch r).result = { mapped := channelMap s.cfg r, t := s.term, v := r.value } := rfl
@[simp] theorem State.latch_lines : (s.latch r).lines = s.lines := rfl
@[simp] theorem State.latch_diag : (s.latch r).diag = s.diag := rfl
@[simp] theorem State.latch_drain : (s.latch r).drain = s.drain := rfl
@[simp] theorem State.latch_residual : (s.latch r).residual = s.residual := rfl
@[simp] theorem State.latch_por : (s.latch r).por = s.por := rfl
@[simp] theorem State.latch_inputs : (s.latch r).inputs = s.inputs := rfl
@[simp] theorem State.latch_out : (s.latch r).out = s.out := rfl

end

/-- For the latched read the latch is `resultOf`, the RESULT of R112 in the model's own words. -/
theorem State.latch_rawDecode_result (s : State) :
    (s.latch (rawDecode s.fn.val s.fb)).result = resultOf s.cfg s.fn.val s.fb := rfl

theorem Mapped.isErr_iff {m : Mapped} : m.isErr = true ↔ ∃ e, m = .err e := by
  cases m <;> simp

section
variable {s : State} {r : Raw}

theorem State.latch_phase_eq_rejected :
    (s.latch r).phase = .rejected ↔ (channelMap s.cfg r).isErr = true := by
  cases h : (channelMap s.cfg r).isErr <;> simp [h]

theorem State.latch_phase_eq_resolved :
    (s.latch r).phase = .resolved ↔ (channelMap s.cfg r).isErr = false := by
  cases h : (channelMap s.cfg r).isErr <;> simp [h]

theorem State.enterResolved_eq_latch {m : Mapped} {v : Value}
    (hm : channelMap s.cfg r = m) (hne : m.isErr = false) (hv : r.value = some v) :
    s.enterResolved m v = s.latch r := by
  simp [State.enterResolved, State.latch, hm, hne, hv]

theorem State.enterRejected_eq_latch {e : ErrOutcome} {v : Option Value}
    (hm : channelMap s.cfg r = .err e) (hv : r.value = v) : s.enterRejected e v = s.latch r := by
  simp [State.enterRejected, State.latch, hm, hv]

/-! ## Each command latches the mapped result of its frame (R105, R112) -/

variable (hp : s.phase = .decoding)
include hp

theorem State.runCommand_resolved_eq_latch {i : Instr} {m : Mapped} {v : Value}
    (hm : channelMap s.cfg r = m) (hne : m.isErr = false) (hv : r.value = some v) :
    s.runCommand i (State.enterResolved m v) = .next (s.latch r) := by
  rw [State.runCommand_decoding hp, State.enterResolved_eq_latch hm hne hv]

theorem State.runCommand_rejected_eq_latch {i : Instr} {e : ErrOutcome} {v : Option Value}
    (hm : channelMap s.cfg r = .err e) (hv : r.value = v) :
    s.runCommand i (State.enterRejected e v) = .next (s.latch r) := by
  rw [State.runCommand_decoding hp, State.enterRejected_eq_latch hm hv]

end

/-- A Selection's transition (R130), by group and chain index. -/
theorem exec_selInstr (g : AntennaGroup) (idx : Fin 16) (s : State) :
    exec (selInstr g idx) s =
      s.runCommand (selInstr g idx) (State.enterResolved (.select g idx) (selInstr g idx).value) := by
  cases g <;> fin_cases idx <;> rfl

/-- A frame that holds no command latches its error, mapped as any other result. -/
theorem State.enterRejected_undecoded {s : State} {e : DecodeError} (hd : decode s.cfg s.fn.val s.fb = .reject e) :
    s.enterRejected (errOfDecode e) none = s.latch (rawDecode s.fn.val s.fb) := by
  have hc := rawDecode_classified s.fn.val s.fb
  unfold decode at hd
  generalize rawDecode s.fn.val s.fb = r at hc hd ⊢
  match r, hc, hd with
  | .frameErr .shortOrEmpty, _, rfl => exact State.enterRejected_eq_latch rfl rfl
  | .frameErr .termOutOfRange, _, rfl => exact State.enterRejected_eq_latch rfl rfl
  | .parseErr .nonBinary _, rfl, rfl => exact State.enterRejected_eq_latch rfl rfl

section
variable {s : State} (hp : s.phase = .decoding)
include hp

theorem exec_badValueOf_eq_latch {v : Value} (hbad : v.getLsbD 8 = true ∨ v.getLsbD 7 = false) :
    exec (badValueOf v) s = .next (s.latch (.parseErr .bitWidth (some v))) := by
  have hv : (Raw.parseErr .bitWidth (some v)).value = some (badValueOf v).value := by
    rw [badValueOf_value hbad]; rfl
  revert hv
  unfold badValueOf
  split
  all_goals
    intro hv
    exact State.runCommand_rejected_eq_latch hp rfl hv

theorem exec_selOf_eq_latch {op : Opcode} (t : Nat) (h7 : op.getLsbD 7 = true) (h6 : op.getLsbD 6 = true) :
    exec (selOf op) s = .next (s.latch (.selRaw op t)) := by
  have hv : (Raw.selRaw op t).value = some (selOf op).value := by rw [selOf_value h7 h6]; rfl
  revert hv
  unfold selOf
  split <;> rename_i h5 h4 <;> intro hv
  · rw [exec_selInstr]
    exact State.runCommand_resolved_eq_latch hp (by rw [channelMap, h5, h4]; rfl) rfl hv
  · rw [exec_selInstr]
    exact State.runCommand_resolved_eq_latch hp (by rw [channelMap, h5, h4]; rfl) rfl hv
  · exact State.runCommand_rejected_eq_latch hp (by rw [channelMap, h5]; rfl) hv
  · exact State.runCommand_rejected_eq_latch hp (by rw [channelMap, h5]; rfl) hv

theorem exec_cfgOf_eq_latch {op : Opcode} (t : Nat) (h7 : op.getLsbD 7 = true) (h6 : op.getLsbD 6 = false) :
    exec (cfgOf s.cfg op) s = .next (s.latch (.cfgRaw op t)) := by
  have hv : (Raw.cfgRaw op t).value = some (cfgOf s.cfg op).value := by rw [cfgOf_value _ h7 h6]; rfl
  revert hv
  unfold cfgOf
  dsimp only
  split
  next hsub =>
    intro hv
    exact State.runCommand_resolved_eq_latch hp (by rw [channelMap, hsub]; rfl) rfl hv
  next =>
    cases hact : s.cfg.action (op.setWidth 6) with
    | some act =>
      simp only [Config.recognised, hact, Option.isSome_some, if_true]
      intro hv
      rw [exec, execCfg, State.runCommand_decoding hp, hact]
      exact congrArg _ (State.enterResolved_eq_latch (by rw [channelMap, hact]) rfl hv)
    | none =>
      simp only [Config.recognised, hact, Option.isSome_none, Bool.false_eq_true, if_false]
      intro hv
      exact State.runCommand_rejected_eq_latch hp (by rw [channelMap, hact]) hv

/-- The command a frame holds latches the mapped decode of that frame. -/
theorem exec_decoded {i : Instr} (hd : decode s.cfg s.fn.val s.fb = .instr i) :
    exec i s = .next (s.latch (rawDecode s.fn.val s.fb)) := by
  have hc := rawDecode_classified s.fn.val s.fb
  unfold decode at hd
  generalize rawDecode s.fn.val s.fb = r at hc hd ⊢
  match r, hc, hd with
  | .parseErr .bitWidth _, ⟨v, rfl, hbad⟩, rfl => exact exec_badValueOf_eq_latch hp hbad
  | .selRaw op t, ⟨h7, h6⟩, rfl => exact exec_selOf_eq_latch hp t h7 h6
  | .cfgRaw op t, ⟨h7, h6⟩, rfl => exact exec_cfgOf_eq_latch hp t h7 h6

/-- The decode step latches the mapped decode of the latched read, whatever the frame holds (R112). -/
theorem step_decoding_latch (hpor : s.por = false) :
    step s = .next (s.latch (rawDecode s.fn.val s.fb)) := by
  rw [step_decoding hpor hp]
  split
  next i hd => exact exec_decoded hp hd
  next e hd => rw [State.enterRejected_undecoded hd]

end

/-- The next states of a step, by the PHASE it starts in, with the latch of the decode step said once for
all frames. -/
theorem step_transitions {s t : State} (h : step s = .next t) :
    (s.por = true ∧ s.phase = .idle ∧ s.out = [] ∧
      t = { State.resetWith s.cfg with residual := s.residual, inputs := s.inputs }) ∨
    (s.por = false ∧ s.phase = .idle ∧ t = s.idleMove) ∨
    (s.por = false ∧ s.phase = .decoding ∧ t = s.latch (rawDecode s.fn.val s.fb)) ∨
    (s.por = false ∧ s.phase = .resolved ∧ ∃ ws, writeSeq s.result.mapped = some ws ∧
      ((∃ w, ws[s.wseq.toNat]? = some w ∧ t = s.writeStep w) ∨
       (s.wseq.toNat = ws.length ∧ t = s.completeResolved))) ∨
    (s.por = false ∧ s.phase = .rejected ∧ t = s.completeRejected) := by
  refine (step_cases h).imp_right (Or.imp_right (Or.imp ?decoding (Or.imp_left ?resolved)))
  case decoding =>
    rintro ⟨hpor, hp, -⟩
    rw [step_decoding_latch hp hpor] at h
    cases h
    exact ⟨hpor, hp, rfl⟩
  case resolved =>
    rintro ⟨hpor, hp, hstep⟩
    exact ⟨hpor, hp, State.resolvedStep_cases hstep⟩

end Sys2Proof.Machine
end

section
/-! PROOFS. The state's invariants over one step, and at reset (spec/10_state.md). -/

namespace Sys2Proof.Machine

/-! ## The sequencing registers (R22, R23, R112, R186) -/

/-- A state with no latched result meets the sequencing invariant when WSEQ is 0. -/
theorem State.sequenced_of_unlatched {s : State} (hp : s.phase = .idle ∨ s.phase = .decoding)
    (hw : s.wseq = 0) : s.Sequenced := by
  obtain ⟨hres, hrej⟩ : s.phase ≠ .resolved ∧ s.phase ≠ .rejected := by
    rcases hp with hp | hp <;> simp [hp]
  exact {
    wseq_zero := fun _ => hw
    latched := fun h => absurd h (not_or.mpr ⟨hres, hrej⟩)
    resolved := fun h => absurd h hres
    rejected := fun h => absurd h hrej }

/-- A move in IDLE leaves no result latched and WSEQ as it was. -/
theorem State.idleMove_sequenced {s : State} (hp : s.phase = .idle) (hw : s.wseq = 0) :
    s.idleMove.Sequenced := by
  rcases s.idleMove_cases with ⟨-, hm⟩ | ⟨bs, rest, -, hm⟩ | ⟨n, pad, rest, -, hm⟩ <;> rw [hm]
  · exact State.sequenced_of_unlatched (.inl hp) hw
  · exact State.sequenced_of_unlatched (.inl hp) hw
  · exact State.sequenced_of_unlatched (.inr rfl) hw

/-- The decode latch meets the invariant from any state: an action has a sequence and no write of it is
done, everything else is an error. -/
theorem State.latch_sequenced (s : State) : (s.latch (rawDecode s.fn.val s.fb)).Sequenced where
  wseq_zero := fun _ => rfl
  latched := fun _ => s.latch_rawDecode_result
  resolved := fun h => by
    cases hws : writeSeq (channelMap s.cfg (rawDecode s.fn.val s.fb)) with
    | none =>
      have herr := Mapped.isErr_iff.mpr (writeSeq_eq_none_iff.mp hws)
      simp [State.latch_phase_eq_resolved.mp h] at herr
    | some ws => exact ⟨ws, hws, Nat.zero_le _⟩
  rejected := fun h => Mapped.isErr_iff.mp (State.latch_phase_eq_rejected.mp h)

/-- A write step counts one write on, which is still within its sequence: a sequence has at most three
writes, so WSEQ does not wrap. -/
theorem State.writeStep_wseq_toNat {s : State} {ws : List LineWrite} {w : LineWrite}
    (hws : writeSeq s.result.mapped = some ws) (hw : ws[s.wseq.toNat]? = some w) :
    (s.writeStep w).wseq.toNat = s.wseq.toNat + 1 ∧ s.wseq.toNat + 1 ≤ ws.length := by
  obtain ⟨hlt, -⟩ := List.getElem?_eq_some_iff.mp hw
  have hlen := writeSeq_length_le hws
  refine ⟨?_, hlt⟩
  rw [State.writeStep_wseq, BitVec.toNat_add]
  exact Nat.mod_eq_of_lt (by simp; omega)

theorem State.writeStep_sequenced {s : State} {ws : List LineWrite} {w : LineWrite} (hs : s.Sequenced)
    (hp : s.phase = .resolved) (hws : writeSeq s.result.mapped = some ws)
    (hw : ws[s.wseq.toNat]? = some w) : (s.writeStep w).Sequenced where
  wseq_zero := fun h => absurd hp h
  latched := hs.latched
  resolved := fun _ => by
    obtain ⟨hcount, hle⟩ := State.writeStep_wseq_toNat hws hw
    exact ⟨ws, hws, hcount ▸ hle⟩
  rejected := hs.rejected

/-- Settles O40, by the transition the step takes. -/
theorem sequencingIsKept : Obligations.SequencingIsKept := by
  intro s t hs h
  rcases step_transitions h with ⟨-, -, -, rfl⟩ | ⟨-, hp, rfl⟩ | ⟨-, -, rfl⟩ |
    ⟨-, hp, ws, hws, ⟨w, hw, rfl⟩ | ⟨-, rfl⟩⟩ | ⟨-, hp, rfl⟩
  · exact State.sequenced_of_unlatched (.inl rfl) rfl
  · exact State.idleMove_sequenced hp (hs.wseq_zero (by simp [hp]))
  · exact s.latch_sequenced
  · exact State.writeStep_sequenced hs hp hws hw
  · exact State.sequenced_of_unlatched (.inl rfl) rfl
  · exact State.sequenced_of_unlatched (.inl rfl) (hs.wseq_zero (by simp [hp]))

/-! ## What a step leaves unchanged (R28, R34) -/

@[simp] theorem State.idleMove_cfg (s : State) : s.idleMove.cfg = s.cfg := by
  rcases s.idleMove_cases with ⟨-, hm⟩ | ⟨bs, rest, -, hm⟩ | ⟨n, pad, rest, -, hm⟩ <;> rw [hm]

@[simp] theorem State.idleMove_lines (s : State) : s.idleMove.lines = s.lines := by
  rcases s.idleMove_cases with ⟨-, hm⟩ | ⟨bs, rest, -, hm⟩ | ⟨n, pad, rest, -, hm⟩ <;> rw [hm]

/-- Settles O47: of the transitions with no reset pending, the write step alone touches LINES. -/
theorem onlyALineWriteChangesLines : Obligations.OnlyALineWriteChangesLines := by
  intro s t hpor h hne
  rcases step_transitions h with ⟨hset, -⟩ | ⟨-, -, rfl⟩ | ⟨-, -, rfl⟩ |
    ⟨-, hp, ws, hws, ⟨w, hw, rfl⟩ | ⟨-, rfl⟩⟩ | ⟨-, -, rfl⟩
  · simp [hpor] at hset
  · exact absurd s.idleMove_lines hne
  · exact absurd (s.latch_lines _) hne
  · exact ⟨hp, ws, w, hws, hw, rfl, rfl⟩
  · exact absurd s.completeResolved_lines hne
  · exact absurd s.completeRejected_lines hne

/-- Settles O49: every transition, a reset included, carries the parameters over. -/
theorem parametersAreConstant : Obligations.ParametersAreConstant := by
  intro s t h
  rcases step_transitions h with ⟨-, -, -, rfl⟩ | ⟨-, -, rfl⟩ | ⟨-, -, rfl⟩ |
    ⟨-, -, ws, -, ⟨w, -, rfl⟩ | ⟨-, rfl⟩⟩ | ⟨-, -, rfl⟩
  · rfl
  · exact s.idleMove_cfg
  · exact s.latch_cfg _
  · exact s.writeStep_cfg w
  · exact s.completeResolved_cfg
  · exact s.completeRejected_cfg

/-! ## Reset (R35, R210, R214) -/

theorem step_por_idle {s : State} (hpor : s.por = true) (hp : s.phase = .idle) (ho : s.out = []) :
    step s = .next { State.resetWith s.cfg with residual := s.residual, inputs := s.inputs } := by
  rw [step_por hpor, State.powerOnReset_idle hp ho]

/-- Settles O3. -/
theorem porKeepsTheTransport : Obligations.PorKeepsTheTransport :=
  ⟨fun _ hpor hp ho => ⟨_, step_por_idle hpor hp ho, rfl, rfl, rfl⟩, rfl, rfl⟩

theorem State.resetWith_sequenced (k : Config) : (State.resetWith k).Sequenced :=
  State.sequenced_of_unlatched (.inl rfl) rfl

/-- No write has been issued at reset, so LINES are INIT_LINES. -/
theorem State.resetWith_replayed (k : Config) : (State.resetWith k).Replayed := rfl

theorem State.resetWith_codesListed (k : Config) : (State.resetWith k).CodesListed :=
  fun _ hd => absurd hd List.not_mem_nil

theorem State.resetWith_exclusive {k : Config} (h : excl k.initLines = true) :
    (State.resetWith k).Exclusive where
  init := h
  outside := fun _ => h
  inside := fun hp => by simp at hp

/-- Settles O58: the invariants hold after reset under any parameters, the exclusion one under R214's
launch premise, which INIT_LINES = 0 meets. -/
theorem resetMeetsTheInvariants : Obligations.ResetMeetsTheInvariants :=
  ⟨State.resetWith_sequenced _, State.resetWith_replayed _, State.resetWith_codesListed _,
    State.resetWith_exclusive (by decide), fun _ => State.resetWith_exclusive⟩

end Sys2Proof.Machine
end

section
/-! PROOFS. The output lines and the transport over one step, and the addresses the line writes go to
(spec/20_memory.md). -/

namespace Sys2Proof.Machine

/-! ## LINES against the writes issued (R48, R49) -/

/-- One more write issued is one more write applied. -/
theorem applyWrites_concat (ws : List LineWrite) (w : LineWrite) (x : LineLevels) :
    applyWrites (ws ++ [w]) x = w.apply (applyWrites ws x) := List.foldl_concat ..

section
variable (s : State)

@[simp] theorem State.idleMove_out : s.idleMove.out = s.out := by
  rcases s.idleMove_cases with ⟨-, hm⟩ | ⟨bs, rest, -, hm⟩ | ⟨n, pad, rest, -, hm⟩ <;> rw [hm]

@[simp] theorem State.idleMove_writes : s.idleMove.writes = s.writes := by
  rw [State.writes, s.idleMove_out, State.writes]

@[simp] theorem State.latch_writes (r : Raw) : (s.latch r).writes = s.writes := rfl

@[simp] theorem State.writeStep_writes (w : LineWrite) : (s.writeStep w).writes = s.writes ++ [w] := by
  simp [State.writes, OutEvent.write?]

@[simp] theorem State.completeResolved_writes : s.completeResolved.writes = s.writes := by
  cases hd : drainReq s.result <;> simp [State.writes, OutEvent.write?, hd]

@[simp] theorem State.completeRejected_writes : s.completeRejected.writes = s.writes := by
  simp [State.writes, OutEvent.write?]

end

/-- The relation speaks of the parameters, LINES and the writes alone. -/
theorem State.Replayed.of_eq {s t : State} (hs : s.Replayed) (hcfg : t.cfg = s.cfg)
    (hlines : t.lines = s.lines) (hwrites : t.writes = s.writes) : t.Replayed := by
  rw [State.Replayed, hcfg, hlines, hwrites]
  exact hs

theorem State.Replayed.writeStep {s : State} (hs : s.Replayed) (w : LineWrite) :
    (s.writeStep w).Replayed := by
  rw [State.Replayed, s.writeStep_lines, s.writeStep_writes, s.writeStep_cfg, applyWrites_concat, ← hs]

/-- Settles O48: a write step appends the write it performs, a reset finds and leaves no write issued, and
every other transition touches neither LINES nor the writes. -/
theorem linesReplayTheWrites : Obligations.LinesReplayTheWrites := by
  intro s t hs h
  rcases step_transitions h with ⟨-, -, -, rfl⟩ | ⟨-, -, rfl⟩ | ⟨-, -, rfl⟩ |
    ⟨-, -, ws, -, ⟨w, -, rfl⟩ | ⟨-, rfl⟩⟩ | ⟨-, -, rfl⟩
  · exact State.resetWith_replayed s.cfg
  · exact hs.of_eq s.idleMove_cfg s.idleMove_lines s.idleMove_writes
  · exact hs.of_eq (s.latch_cfg _) (s.latch_lines _) (s.latch_writes _)
  · exact hs.writeStep w
  · exact hs.of_eq s.completeResolved_cfg s.completeResolved_lines s.completeResolved_writes
  · exact hs.of_eq s.completeRejected_cfg s.completeRejected_lines s.completeRejected_writes

/-! ## The transport's bytes and DRAIN (R31, R55, R218) -/

theorem State.latch_phase_ne_idle (s : State) (r : Raw) : (s.latch r).phase ≠ .idle := by
  rw [State.latch_phase]
  split <;> nofun

/-- The transitions inside a cycle: one that goes on with it, by the latch or a write, keeps the transport's
bytes and DRAIN; one that ends it leaves the transport as DRAIN says. -/
theorem step_cycle_transport {s t : State} (hp : s.phase ≠ .idle) (h : step s = .next t) :
    (t.phase ≠ .idle ∧ t.residual = s.residual ∧ t.drain = s.drain) ∨
    (t.phase = .idle ∧ t.residual = if t.drain then [] else s.residual) := by
  rcases step_transitions h with ⟨-, hidle, -⟩ | ⟨-, hidle, -⟩ | ⟨-, -, rfl⟩ |
    ⟨-, -, ws, -, ⟨w, -, rfl⟩ | ⟨-, rfl⟩⟩ | ⟨-, -, rfl⟩
  · exact absurd hidle hp
  · exact absurd hidle hp
  · exact .inl ⟨s.latch_phase_ne_idle _, s.latch_residual _, s.latch_drain _⟩
  · exact .inl ⟨hp, s.writeStep_residual w, s.writeStep_drain w⟩
  · exact .inr ⟨rfl, rfl⟩
  · exact .inr ⟨rfl, rfl⟩

/-- In IDLE only an accept touches DRAIN, and it clears it (R31). -/
theorem State.idleMove_drain (s : State) :
    s.idleMove.drain = s.drain ∨ (s.idleMove.phase = .decoding ∧ s.idleMove.drain = false) := by
  rcases s.idleMove_cases with ⟨-, hm⟩ | ⟨bs, rest, -, hm⟩ | ⟨n, pad, rest, -, hm⟩ <;> rw [hm]
  · exact .inl rfl
  · exact .inl rfl
  · exact .inr ⟨rfl, rfl⟩

/-- Settles O53: its clauses are what a transition inside a cycle does to the transport, and that in IDLE
DRAIN is an accept's to clear. -/
theorem drainEmptiesTheTransport : Obligations.DrainEmptiesTheTransport := by
  refine ⟨fun s t _ hp h ht => ?ending, fun s t hp h ht => ?inside, fun s t hpor h hne => ?drain⟩
  case ending =>
    obtain ⟨hnot, -⟩ | ⟨-, hres⟩ := step_cycle_transport hp h
    · exact absurd ht hnot
    · exact hres
  case inside =>
    obtain ⟨-, hres, -⟩ | ⟨hidle, -⟩ := step_cycle_transport hp h
    · exact hres
    · exact absurd hidle ht
  case drain =>
    by_cases hp : s.phase = .idle
    · rw [step_idle hpor hp] at h
      cases h
      obtain hsame | ⟨hdec, hclear⟩ := s.idleMove_drain
      · exact absurd hsame hne
      · exact .inr ⟨hp, hdec, hclear⟩
    · obtain ⟨-, -, hsame⟩ | ⟨hidle, -⟩ := step_cycle_transport hp h
      · exact absurd hsame hne
      · exact .inl ⟨hidle, hp⟩

/-! ## Physical addresses (R9, R43, R44) -/

theorem LineWrite.addrs_set (k : Config) (i : Fin 34) :
    (LineWrite.set i).addrs k = [k.lineAddr[i]] := rfl

/-- The slots a CLEAR_ALL goes to are those of the lines, each at channel 0 (R44). -/
theorem LineWrite.mem_addrs_clearAll {k : Config} {a : LineAddr} :
    a ∈ LineWrite.clearAll.addrs k ↔ a.channel = 0 ∧ ∃ i : Fin 34, k.lineAddr[i].slot = a.slot := by
  obtain ⟨slot, channel⟩ := a
  have used : slot ∈ k.lineAddr.toList.map (fun x => x.slot) ↔ ∃ i : Fin 34, k.lineAddr[i].slot = slot := by
    simp [Vector.mem_iff_getElem, Fin.exists_iff]
  rw [← used]
  simp [LineWrite.addrs, and_comm, eq_comm]

/-- Settles O57, from R9's constraint on LINE_ADDR. -/
theorem physicalAddresses : Obligations.PhysicalAddresses :=
  fun k => ⟨fun i => ⟨LineWrite.addrs_set k i, k.one_le_channel i⟩, fun _ _ => k.lineAddr_inj,
    fun _ => LineWrite.mem_addrs_clearAll⟩

end Sys2Proof.Machine
end

section
/-! PROOFS. The encoding: what a canonical frame parses to, the opcode map, and decode against encode
(spec/30_encoding.md). -/

namespace Sys2Proof

/-! ## The digits of a value (R71) -/

/-- The `n` digits that spell the low `n` bits of a value, most significant first. -/
def digitsOf (v : Value) : Nat → List Byte
  | 0 => []
  | n + 1 => digitOf (v.getLsbD n) :: digitsOf v n

theorem isDigit_digitOf (b : Bool) : isDigit (digitOf b) = true := by cases b <;> rfl

theorem digitOf_toNat (b : Bool) : (digitOf b).toNat - 0x30 = b.toNat := by cases b <;> rfl

theorem digitsOf_length (v : Value) (n : Nat) : (digitsOf v n).length = n := by
  induction n with
  | zero => rfl
  | succ n ih => rw [digitsOf, List.length_cons, ih]

/-- The parse keeps all digits spelt from bits. -/
theorem digitPrefix_digitsOf (v : Value) (n : Nat) : digitPrefix (digitsOf v n) = digitsOf v n := by
  induction n with
  | zero => rfl
  | succ n ih =>
    rw [digitsOf, digitPrefix, List.takeWhile_cons_of_pos (isDigit_digitOf _)]
    exact congrArg _ ih

theorem digitsValue_digitsOf (v : Value) (n : Nat) : digitsValue (digitsOf v n) = v.toNat % 2 ^ n := by
  induction n with
  | zero => rw [pow_zero, Nat.mod_one]; rfl
  | succ n ih =>
    rw [digitsOf, digitsValue_cons, digitOf_toNat, digitsOf_length, ih, Nat.mod_pow_succ,
      BitVec.getLsbD, Nat.toNat_testBit, Nat.mul_comm, Nat.add_comm]

/-! ## What the canonical frame of a value parses to (R60, R71, R87) -/

theorem getLsbD_eight (v : Value) : v.getLsbD 8 = decide (0x100 ≤ v.toNat) := BitVec.msb_eq_decide v

/-- The token of the canonical frame: eight digits, nine for a value above 8 bits. -/
theorem tokenOf_frameOf (v : Value) :
    tokenOf (if v.getLsbD 8 then 9 else 8) (frameOf v) =
      digitsOf v (if v.getLsbD 8 then 9 else 8) := by
  unfold frameOf
  split
  next h8 =>
    rw [digitsOf, h8]
    rfl
  next => rfl

/-- The digits of the canonical frame are worth the value. -/
theorem digitsValue_tokenOf_frameOf (v : Value) :
    digitsValue (digitPrefix (tokenOf (if v.getLsbD 8 then 9 else 8) (frameOf v))) = v.toNat := by
  rw [tokenOf_frameOf, digitPrefix_digitsOf, digitsValue_digitsOf, getLsbD_eight]
  apply Nat.mod_eq_of_lt
  split
  next => exact v.isLt
  next h => simpa using h

theorem head?_tokenOf {t : Nat} (ht : t ≠ 0) (b : Frame) : (tokenOf t b).head? = some b[0] := by
  obtain ⟨t, rfl⟩ := Nat.exists_eq_succ_of_ne_zero ht
  simp [tokenOf, List.head?_eq_getElem?]

/-- A frame that passes the frame check and starts with a digit is classified by its digits' value. -/
theorem rawDecode_of_isDigit {n t : Nat} {b : Frame} (hcheck : checkFrame n b = .ok t)
    (hdigit : isDigit b[0] = true) :
    rawDecode n b = classifyValue (digitsValue (digitPrefix (tokenOf t b))) t := by
  obtain ⟨-, -, ht⟩ := checkFrame_eq_ok.mp hcheck
  simp only [rawDecode, hcheck, head?_tokenOf ht, hdigit, if_true]

theorem rawDecode_frameOf (v : Value) :
    rawDecode 10 (frameOf v) = classifyValue v.toNat (if v.getLsbD 8 then 9 else 8) := by
  obtain ⟨hcheck, hdigit⟩ := Laws.FrameShape.frameOf_shape v
  rw [rawDecode_of_isDigit hcheck hdigit, digitsValue_tokenOf_frameOf]

/-! ## The classification by ranges (R89, R90) -/

theorem classifyValue_bitWidth {v : Nat} (hv : v ≤ 0x7F ∨ 0x100 ≤ v) (t : Nat) :
    classifyValue v t = .parseErr .bitWidth (some (BitVec.ofNat 9 v)) := by
  have hbad : v > 255 ∨ ¬ v / 2 ^ 7 % 2 = 1 := by omega
  rw [classifyValue, Nat.testBit_eq_decide_div_mod_eq, if_pos (by simpa using hbad)]

/-- A value with the sentinel and no ninth bit is an opcode, of the category bit 6 says. -/
theorem classifyValue_opcode {v : Nat} (h : 0x80 ≤ v) (h' : v ≤ 0xFF) (t : Nat) :
    classifyValue v t =
      if 0xC0 ≤ v then .selRaw (BitVec.ofNat 8 v) t else .cfgRaw (BitVec.ofNat 8 v) t := by
  have hgood : ¬ (v > 255 ∨ ¬ v / 2 ^ 7 % 2 = 1) := by omega
  have hbit6 : v / 2 ^ 6 % 2 = 1 ↔ 0xC0 ≤ v := by omega
  have h6 : (BitVec.ofNat 8 v).getLsbD 6 = decide (0xC0 ≤ v) := by
    rw [BitVec.getLsbD_ofNat, Nat.testBit_eq_decide_div_mod_eq, decide_eq_true (by decide : 6 < 8),
      Bool.true_and, decide_eq_decide.mpr hbit6]
  rw [classifyValue, Nat.testBit_eq_decide_div_mod_eq, if_neg (by simpa using hgood)]
  simp only [h6, decide_eq_true_eq]

/-! ## The command of a canonical frame, by format (R63, R67) -/

section
variable (k : Config) {v : Value}

theorem decode_frameOf_badValue (h : v.toNat ≤ 0x7F ∨ 0x100 ≤ v.toNat) :
    decode k 10 (frameOf v) = .instr (badValueOf v) := by
  rw [decode, rawDecode_frameOf, classifyValue_bitWidth h, BitVec.ofNat_toNat, BitVec.setWidth_eq]
  rfl

theorem decode_frameOf_cfg (h : 0x80 ≤ v.toNat ∧ v.toNat ≤ 0xBF) :
    decode k 10 (frameOf v) = .instr (cfgOf k (v.setWidth 8)) := by
  rw [decode, rawDecode_frameOf, classifyValue_opcode h.1 (by omega), if_neg (by omega),
    BitVec.ofNat_toNat]

theorem decode_frameOf_sel (h : 0xC0 ≤ v.toNat ∧ v.toNat ≤ 0xFF) :
    decode k 10 (frameOf v) = .instr (selOf (v.setWidth 8)) := by
  rw [decode, rawDecode_frameOf, classifyValue_opcode (by omega) h.2, if_pos h.1, BitVec.ofNat_toNat]

end

/-! ## The rows of each format (R64, R65, R67) -/

theorem badValueOf_noSentinel {v : Value} (h : v.toNat ≤ 0x7F) :
    badValueOf v = .noSentinel (v.setWidth 7) := by
  have hlow : ¬ 0x100 ≤ v.toNat := by omega
  rw [badValueOf, getLsbD_eight, if_neg (by simpa using hlow)]

theorem badValueOf_overWide {v : Value} (h : 0x100 ≤ v.toNat) :
    badValueOf v = .overWide (v.setWidth 8) := by
  rw [badValueOf, getLsbD_eight, if_pos (by simpa using h)]

/-- Of the values of format CFG only 0x80 has the sub-opcode 0. -/
theorem setWidth_six_eq_zero_iff {v : Value} (h : 0x80 ≤ v.toNat ∧ v.toNat ≤ 0xBF) :
    v.setWidth 6 = 0 ↔ v.toNat = 0x80 := by
  have hmod : v.toNat % 2 ^ 6 = 0 ↔ v.toNat = 0x80 := by omega
  rw [← BitVec.toNat_inj, BitVec.toNat_setWidth]
  exact hmod

theorem cfgOf_setWidth (k : Config) (v : Value) :
    cfgOf k (v.setWidth 8) =
      if v.setWidth 6 = 0 then .sleep
      else if k.recognised (v.setWidth 6) then .cfg (v.setWidth 6) else .cfgUnknown (v.setWidth 6) := by
  rw [cfgOf, BitVec.setWidth_setWidth_of_le v (by decide)]

theorem getLsbD_setWidth_eight (v : Value) {i : Nat} (hi : i < 8) :
    (v.setWidth 8).getLsbD i = decide (v.toNat / 2 ^ i % 2 = 1) := by
  rw [BitVec.getLsbD_setWidth, decide_eq_true hi, Bool.true_and, BitVec.getLsbD,
    Nat.testBit_eq_decide_div_mod_eq]

/-- Format SEL's group: bits 5 and 4 of the opcode are its high hexadecimal digit, modulo 4. -/
theorem selGroup_bits {v : Value} (b5 b4 : Bool)
    (h : v.toNat / 16 % 4 = 2 * b5.toNat + b4.toNat) :
    (v.setWidth 8).getLsbD 5 = b5 ∧ (v.setWidth 8).getLsbD 4 = b4 := by
  rw [getLsbD_setWidth_eight v (by decide), getLsbD_setWidth_eight v (by decide)]
  have hb4 := b4.toNat_le
  have h5 : v.toNat / 2 ^ 5 % 2 = b5.toNat := by omega
  have h4 : v.toNat / 2 ^ 4 % 2 = b4.toNat := by omega
  rw [h5, h4]
  cases b5 <;> cases b4 <;> decide

/-- Settles O16: each row lies in the range of one format, and the format's fields choose the row. -/
theorem opcodeMap : Obligations.OpcodeMap := by
  intro k v
  refine ⟨fun h => ?noSentinel, fun h => ?sleep, fun h hact => ?cfg, fun h hact => ?cfgUnknown,
    fun h => ?ems, fun h => ?dfs, fun h => ?rsvGrp2, fun h => ?rsvGrp3, fun h => ?overWide⟩
  case noSentinel => rw [decode_frameOf_badValue k (.inl h), badValueOf_noSentinel h]
  case overWide => rw [decode_frameOf_badValue k (.inr h), badValueOf_overWide h]
  case sleep =>
    have hr : 0x80 ≤ v.toNat ∧ v.toNat ≤ 0xBF := by omega
    rw [decode_frameOf_cfg k hr, cfgOf_setWidth, if_pos ((setWidth_six_eq_zero_iff hr).mpr h)]
  case cfg | cfgUnknown =>
    have hr : 0x80 ≤ v.toNat ∧ v.toNat ≤ 0xBF := by omega
    rw [decode_frameOf_cfg k hr, cfgOf_setWidth,
      if_neg (mt (setWidth_six_eq_zero_iff hr).mp (by omega)), Config.recognised, hact]
    rfl
  case' ems => have hbits := selGroup_bits false false (show v.toNat / 16 % 4 = 0 by omega)
  case' dfs => have hbits := selGroup_bits false true (show v.toNat / 16 % 4 = 1 by omega)
  case' rsvGrp2 => have hbits := selGroup_bits true false (show v.toNat / 16 % 4 = 2 by omega)
  case' rsvGrp3 => have hbits := selGroup_bits true true (show v.toNat / 16 % 4 = 3 by omega)
  all_goals
    obtain ⟨h5, h4⟩ := hbits
    rw [decode_frameOf_sel k (by omega), selOf, h5, h4, BitVec.setWidth_setWidth_of_le v (by decide)]

/-! ## Decode against encode (R60, R71, R94) -/

/-- A row's fixed bits and its operand below them do not overlap: the value is their sum, and its low bits
are the operand. -/
theorem or_setWidth_operand {w : Nat} (hw : w ≤ 9) {hi : Value} (hlow : hi.setWidth w = 0#w)
    (x : BitVec w) :
    (hi ||| x.setWidth 9).toNat = hi.toNat + x.toNat ∧ (hi ||| x.setWidth 9).setWidth w = x := by
  constructor
  · have hdvd : 2 ^ w ∣ hi.toNat := by
      rw [Nat.dvd_iff_mod_eq_zero, ← BitVec.toNat_setWidth, hlow]; rfl
    obtain ⟨q, hq⟩ := hdvd
    rw [BitVec.toNat_or, BitVec.toNat_setWidth_of_le hw, hq, Nat.two_pow_add_eq_or_of_lt x.isLt]
  · rw [BitVec.setWidth_or, hlow, BitVec.setWidth_setWidth_of_le x hw, BitVec.setWidth_eq, BitVec.zero_or]

/-! ### The value each row with an operand spells (R67) -/

theorem Instr.value_cfg (sub : SubOp) :
    (Instr.cfg sub).value.toNat = 0x80 + sub.toNat ∧ (Instr.cfg sub).value.setWidth 6 = sub :=
  or_setWidth_operand (by decide) rfl sub

theorem Instr.value_cfgUnknown (sub : SubOp) :
    (Instr.cfgUnknown sub).value.toNat = 0x80 + sub.toNat ∧ (Instr.cfgUnknown sub).value.setWidth 6 = sub :=
  or_setWidth_operand (by decide) rfl sub

theorem Instr.value_rsvGrp2 (idx : BitVec 4) :
    (Instr.rsvGrp2 idx).value.toNat = 0xE0 + idx.toNat ∧ (Instr.rsvGrp2 idx).value.setWidth 4 = idx :=
  or_setWidth_operand (by decide) rfl idx

theorem Instr.value_rsvGrp3 (idx : BitVec 4) :
    (Instr.rsvGrp3 idx).value.toNat = 0xF0 + idx.toNat ∧ (Instr.rsvGrp3 idx).value.setWidth 4 = idx :=
  or_setWidth_operand (by decide) rfl idx

theorem Instr.value_noSentinel (v : BitVec 7) :
    (Instr.noSentinel v).value.toNat = v.toNat ∧ (Instr.noSentinel v).value.setWidth 7 = v :=
  ⟨BitVec.toNat_setWidth_of_le (by decide),
    (BitVec.setWidth_setWidth_of_le v (by decide)).trans v.setWidth_eq⟩

theorem Instr.value_overWide (v : BitVec 8) :
    (Instr.overWide v).value.toNat = 0x100 + v.toNat ∧ (Instr.overWide v).value.setWidth 8 = v :=
  or_setWidth_operand (by decide) rfl v

/-! ### The condition of the two conditional rows (R171, R172) -/

theorem Instr.wf_cfg {k : Config} {sub : SubOp} :
    (Instr.cfg sub).wf k = true ↔ sub ≠ 0 ∧ k.recognised sub = true := by
  rw [Instr.wf, Bool.and_eq_true, bne_iff_ne]

theorem Instr.wf_cfgUnknown {k : Config} {sub : SubOp} :
    (Instr.cfgUnknown sub).wf k = true ↔ k.action sub = none := by
  simp [Instr.wf, Config.recognised]

/-- A sub-opcode with no action is not Sleep's, which always clears (R9). -/
theorem Config.ne_zero_of_action_none {k : Config} {sub : SubOp} (h : k.action sub = none) : sub ≠ 0 := by
  rintro rfl
  rw [k.action_zero] at h
  cases h

/-- Settles O14: the value a command spells lies in the command's own row of the opcode map, and the row
reads the operand back. -/
theorem decodeOfEncode : Obligations.DecodeOfEncode := by
  intro k i hwf
  obtain ⟨noSentinel, sleep, cfg, cfgUnknown, ems, dfs, rsvGrp2, rsvGrp3, overWide⟩ := opcodeMap k i.value
  unfold encode
  cases i with
  | sleep => exact sleep rfl
  | selEms1 | selEms2 | selEms3 | selEms4 | selEms5 | selEms6 | selEms7 | selEms8
  | selEms9 | selEms10 | selEms11 | selEms12 | selEms13 | selEms14 | selEms15 | selEms16 =>
    exact ems (by decide)
  | selDfs1 | selDfs2 | selDfs3 | selDfs4 | selDfs5 | selDfs6 | selDfs7 | selDfs8
  | selDfs9 | selDfs10 | selDfs11 | selDfs12 | selDfs13 | selDfs14 | selDfs15 | selDfs16 =>
    exact dfs (by decide)
  | cfg sub =>
    obtain ⟨hv, hsub⟩ := Instr.value_cfg sub
    obtain ⟨h0, hrec⟩ := Instr.wf_cfg.mp hwf
    have hpos : sub.toNat ≠ 0 := fun h => h0 (BitVec.eq_of_toNat_eq h)
    rw [hsub] at cfg
    exact cfg (by omega) hrec
  | cfgUnknown sub =>
    obtain ⟨hv, hsub⟩ := Instr.value_cfgUnknown sub
    have hact := Instr.wf_cfgUnknown.mp hwf
    have hpos : sub.toNat ≠ 0 := fun h => Config.ne_zero_of_action_none hact (BitVec.eq_of_toNat_eq h)
    rw [hsub] at cfgUnknown
    exact cfgUnknown (by omega) hact
  | rsvGrp2 idx =>
    obtain ⟨hv, hidx⟩ := Instr.value_rsvGrp2 idx
    rw [hidx] at rsvGrp2
    exact rsvGrp2 (by omega)
  | rsvGrp3 idx =>
    obtain ⟨hv, hidx⟩ := Instr.value_rsvGrp3 idx
    rw [hidx] at rsvGrp3
    exact rsvGrp3 (by omega)
  | noSentinel v =>
    obtain ⟨hv, hlow⟩ := Instr.value_noSentinel v
    rw [hlow] at noSentinel
    exact noSentinel (by omega)
  | overWide v =>
    obtain ⟨hv, hlow⟩ := Instr.value_overWide v
    rw [hlow] at overWide
    exact overWide (by omega)

/-- Settles O13: all frames but the last are canonical, so O14 decodes them; the last spells 0xC0 with a
leading zero. -/
theorem framesDecodeByTheTable : Obligations.FramesDecodeByTheTable :=
  ⟨decodeOfEncode _ .selEms1 rfl, decodeOfEncode _ .selDfs5 rfl, decodeOfEncode _ .sleep rfl,
    decodeOfEncode _ (.cfgUnknown 0x10) rfl, decodeOfEncode _ (.rsvGrp2 0xF) rfl,
    decodeOfEncode _ (.rsvGrp3 0x0) rfl, decodeOfEncode _ (.noSentinel 0x40) rfl,
    decodeOfEncode _ (.overWide 0x81) rfl, by decide⟩

/-! ## What a decoded command is (R67, R80, R88) -/

theorem rawDecode_short {n : Nat} (h : n < 10) (b : Frame) : rawDecode n b = .frameErr .shortOrEmpty := by
  simp only [rawDecode, checkFrame, if_pos h]

theorem badValueOf_wf (k : Config) (v : Value) : (badValueOf v).wf k = true := by
  unfold badValueOf
  split <;> rfl

theorem selOf_wf (k : Config) (op : Opcode) : (selOf op).wf k = true := by
  unfold selOf
  split
  · exact selInstr_wf k .ems _
  · exact selInstr_wf k .dfs _
  · rfl
  · rfl

theorem cfgOf_wf (k : Config) (op : Opcode) : (cfgOf k op).wf k = true := by
  unfold cfgOf
  dsimp only
  split
  · rfl
  next h0 =>
    split
    next hrec => exact Instr.wf_cfg.mpr ⟨h0, hrec⟩
    next hrec => exact Instr.wf_cfgUnknown.mpr (Option.not_isSome_iff_eq_none.mp hrec)

/-- Only a full read holds a command. -/
theorem full_of_decode_instr {k : Config} {n : Nat} {b : Frame} {i : Instr} (h : decode k n b = .instr i) :
    10 ≤ n := by
  by_contra hn
  rw [decode, rawDecode_short (by omega)] at h
  cases h

/-- Settles O15, by the decoder result the command was read from. -/
theorem decodedCommandsAreWellFormed : Obligations.DecodedCommandsAreWellFormed := by
  intro k n b i hd
  have hle := full_of_decode_instr hd
  have hfull : n = 10 := Fin.ext (Nat.le_antisymm (Nat.le_of_lt_succ n.isLt) hle)
  have hc := rawDecode_classified n.val b
  suffices i.wf k = true ∧ (rawDecode n.val b).value = some i.value from ⟨this.1, hfull, this.2⟩
  unfold decode at hd
  generalize rawDecode n.val b = r at hc hd ⊢
  match r, hc, hd with
  | .parseErr .bitWidth _, ⟨v, rfl, hbad⟩, rfl =>
    exact ⟨badValueOf_wf k v, congrArg some (badValueOf_value hbad).symm⟩
  | .selRaw op _, ⟨h7, h6⟩, rfl => exact ⟨selOf_wf k op, congrArg some (selOf_value h7 h6).symm⟩
  | .cfgRaw op _, ⟨h7, h6⟩, rfl => exact ⟨cfgOf_wf k op, congrArg some (cfgOf_value k h7 h6).symm⟩

end Sys2Proof
end

section
/-! PROOFS. The decoder: the frame check in terms of the bytes, the digit sum, the bytes that do not matter and
the corners of the token's length (spec/40_opcode_decoder.md). -/

namespace Sys2Proof

/-! ## The bytes the decoder looks for (R12, R83) -/

theorem isTerminator_iff {x : Byte} : isTerminator x = true ↔ x = 0x0D ∨ x = 0x0A := by
  simp [isTerminator, chrCR, chrLF]

theorem isTerminator_eq_false_iff {x : Byte} : isTerminator x = false ↔ x ≠ 0x0D ∧ x ≠ 0x0A := by
  rw [← Bool.not_eq_true, isTerminator_iff, not_or]

theorem isDigit_iff {x : Byte} : isDigit x = true ↔ x = 0x30 ∨ x = 0x31 := by
  simp [isDigit, chr0, chr1]

theorem isDigit_eq_false_iff {x : Byte} : isDigit x = false ↔ x ≠ 0x30 ∧ x ≠ 0x31 := by
  rw [← Bool.not_eq_true, isDigit_iff, not_or]

/-! ## The frame check in terms of the bytes (R82 to R84) -/

theorem firstTerminator_eq_zero {b : Frame} (h : isTerminator b[0] = true) : firstTerminator b = some 0 :=
  firstTerminator_eq_some.mpr ⟨by decide, h, fun _ hj => absurd hj (Nat.not_lt_zero _)⟩

theorem firstTerminator_eq_none {b : Frame} :
    firstTerminator b = none ↔ ∀ (i : Nat) (h : i < 10), isTerminator b[i] = false := by
  rw [firstTerminator, List.findIdx?_eq_none_iff, List.forall_mem_iff_getElem]
  simp

/-- A full window with a terminator, but not in first place, passes the frame check. -/
theorem exists_checkFrame_ok {b : Frame} {i : Nat} (hi : i < 10) (hterm : isTerminator b[i] = true)
    (h0 : isTerminator b[0] = false) : ∃ t, checkFrame 10 b = .ok t := by
  cases hfirst : firstTerminator b with
  | none =>
    rw [firstTerminator_eq_none.mp hfirst i hi] at hterm
    cases hterm
  | some t =>
    refine ⟨t, checkFrame_eq_ok.mpr ⟨by decide, hfirst, ?_⟩⟩
    rintro rfl
    obtain ⟨_, hat, _⟩ := firstTerminator_eq_some.mp hfirst
    rw [h0] at hat
    cases hat

/-- A full window with no terminator, or with an empty token, fails the frame check (R84). -/
theorem rawDecode_termOutOfRange {b : Frame} (h : firstTerminator b = none ∨ firstTerminator b = some 0) :
    rawDecode 10 b = .frameErr .termOutOfRange := by
  obtain h | h := h <;> simp [rawDecode, checkFrame, h]

/-- A frame that passes the frame check but starts with no digit has no value (R86). -/
theorem rawDecode_of_not_isDigit {n t : Nat} {b : Frame} (hcheck : checkFrame n b = .ok t)
    (hdigit : isDigit b[0] = false) : rawDecode n b = .parseErr .nonBinary none := by
  obtain ⟨-, -, ht⟩ := checkFrame_eq_ok.mp hcheck
  simp [rawDecode, hcheck, head?_tokenOf ht, hdigit]

/-- Settles O17, by the byte conditions of the frame check and of the parse. -/
theorem frameErrors : Obligations.FrameErrors := by
  refine ⟨fun n b hn => rawDecode_short hn b, fun b hnone => ?noTerminator, fun b hfirst => ?leading,
    fun b ⟨i, hi, hterm⟩ hcr hlf h0 h1 => ?nonBinary⟩
  case noTerminator =>
    exact rawDecode_termOutOfRange
      (.inl (firstTerminator_eq_none.mpr fun i hi => isTerminator_eq_false_iff.mpr (hnone i hi)))
  case leading =>
    exact rawDecode_termOutOfRange (.inr (firstTerminator_eq_zero (isTerminator_iff.mpr hfirst)))
  case nonBinary =>
    obtain ⟨t, hcheck⟩ := exists_checkFrame_ok hi (isTerminator_iff.mpr hterm)
      (isTerminator_eq_false_iff.mpr ⟨hcr, hlf⟩)
    exact rawDecode_of_not_isDigit hcheck (isDigit_eq_false_iff.mpr ⟨h0, h1⟩)

/-! ## The token (R83, R84) -/

theorem tokenOf_length {t : Nat} (ht : t < 10) (b : Frame) : (tokenOf t b).length = t := by
  rw [tokenOf, List.length_take, Vector.length_toList]
  omega

theorem getElem?_tokenOf {t i : Nat} (ht : t < 10) (hi : i < t) (b : Frame) :
    (tokenOf t b)[i]? = some b[i] := by
  rw [tokenOf, List.getElem?_take_of_lt hi, List.getElem?_eq_getElem (by simp; omega), Vector.getElem_toList]

theorem getElem?_tokenOf_eq_some {t i : Nat} (ht : t < 10) {b : Frame} {d : Byte} :
    (tokenOf t b)[i]? = some d ↔ ∃ hi : i < t, b[i] = d := by
  constructor
  · intro h
    have hi : i < t := tokenOf_length ht b ▸ (List.getElem?_eq_some_iff.mp h).1
    rw [getElem?_tokenOf ht hi] at h
    exact ⟨hi, Option.some.inj h⟩
  · rintro ⟨hi, rfl⟩
    exact getElem?_tokenOf ht hi b

/-- Settles O18: the frame check answers the first terminator, and the token is what stands before it. -/
theorem tokenEndsAtTheFirstTerminator : Obligations.TokenEndsAtTheFirstTerminator := by
  refine ⟨fun b t ht hpos hterm hbefore => ?token,
    fun b hfirst => firstTerminator_eq_zero (isTerminator_iff.mpr hfirst),
    fun b hnone => firstTerminator_eq_none.mpr fun i hi => isTerminator_eq_false_iff.mpr (hnone i hi)⟩
  have hfirst : firstTerminator b = some t := firstTerminator_eq_some.mpr
    ⟨ht, isTerminator_iff.mpr hterm, fun j hj => isTerminator_eq_false_iff.mpr (hbefore j hj)⟩
  exact ⟨hfirst, checkFrame_eq_ok.mpr ⟨by decide, hfirst, by omega⟩, tokenOf_length ht b,
    fun i hi => getElem?_tokenOf ht hi b⟩

/-! ## The parsed value (R87, R88) -/

/-- The leading digits are the first `k` bytes, when these are digits and the next byte, if any, is none. -/
theorem digitPrefix_eq_take {tok : List Byte} {k : Nat} (hdigit : ∀ d ∈ tok.take k, isDigit d = true)
    (hend : ∀ d, tok[k]? = some d → isDigit d = false) : digitPrefix tok = tok.take k := by
  have hrest : (tok.drop k).takeWhile isDigit = [] := by
    rw [← List.head?_drop] at hend
    cases hd : tok.drop k with
    | nil => rfl
    | cons d ds => exact List.takeWhile_cons_of_neg (by simp [hend d (by rw [hd]; rfl)])
  calc digitPrefix tok
      = (tok.take k ++ tok.drop k).takeWhile isDigit := by rw [List.take_append_drop]; rfl
    _ = tok.take k := by rw [List.takeWhile_append_of_pos hdigit, hrest, List.append_nil]

/-- Digits are worth their base-2 sum, most significant first. -/
theorem digitsValue_eq_sum (ds : List Byte) :
    digitsValue ds =
      ∑ j ∈ Finset.range ds.length, ((ds.getD j 0).toNat - 0x30) * 2 ^ (ds.length - 1 - j) := by
  induction ds with
  | nil => rfl
  | cons d ds ih =>
    have hpow : ∀ j, ds.length + 1 - 1 - (j + 1) = ds.length - 1 - j := by omega
    rw [digitsValue_cons, ih, List.length_cons, Finset.sum_range_succ']
    simp only [List.getD_cons_succ, List.getD_cons_zero, hpow]
    exact Nat.add_comm _ _

/-- Whatever the classification says, it carries the value (R88). -/
theorem classifyValue_value {v : Nat} (hv : v ≤ 511) (t : Nat) :
    (classifyValue v t).value = some (BitVec.ofNat 9 v) := by
  by_cases hbad : v ≤ 0x7F ∨ 0x100 ≤ v
  · rw [classifyValue_bitWidth hbad, Raw.value]
  · have hop : (BitVec.ofNat 8 v).setWidth 9 = BitVec.ofNat 9 v :=
      BitVec.setWidth_ofNat_of_le_of_lt (by decide) (by omega)
    rw [classifyValue_opcode (by omega) (by omega)]
    split <;> exact congrArg some hop

/-- The leading digits of a token, in terms of the bytes of the window. -/
theorem digitPrefix_tokenOf {t k : Nat} (ht : t < 10) (hkt : k ≤ t) {b : Frame}
    (hdigit : ∀ (j : Nat) (h : j < k), isDigit b[j] = true) (hend : ∀ h : k < t, isDigit b[k] = false) :
    digitPrefix (tokenOf t b) = tokenOf k b := by
  have htake : (tokenOf t b).take k = tokenOf k b := by
    rw [tokenOf, List.take_take, Nat.min_eq_left hkt, tokenOf]
  rw [← htake]
  refine digitPrefix_eq_take (fun d hd => ?_) fun d hd => ?_
  · obtain ⟨j, hj⟩ := List.mem_iff_getElem?.mp (htake ▸ hd)
    obtain ⟨hjk, rfl⟩ := (getElem?_tokenOf_eq_some (by omega)).mp hj
    exact hdigit j hjk
  · obtain ⟨hk, rfl⟩ := (getElem?_tokenOf_eq_some ht).mp hd
    exact hend hk

theorem getD_toList (b : Frame) {j : Nat} (hj : j < 10) : b.toList.getD j 0 = b[j] := by
  rw [List.getD_eq_getElem _ _ (by simpa using hj), Vector.getElem_toList]

/-- The first `k` bytes of a window, read as digits, are worth their base-2 sum. -/
theorem digitsValue_tokenOf {k : Nat} (hk : k < 10) (b : Frame) :
    digitsValue (tokenOf k b) =
      ∑ j ∈ Finset.range k, ((b.toList.getD j 0).toNat - 0x30) * 2 ^ (k - 1 - j) := by
  rw [digitsValue_eq_sum, tokenOf_length hk]
  refine Finset.sum_congr rfl fun j hj => ?_
  have hjk := Finset.mem_range.mp hj
  rw [List.getD_eq_getElem?_getD, getElem?_tokenOf hk hjk, Option.getD_some, getD_toList b (by omega)]

/-- Settles O19: the leading digits are the first `k` bytes of the window, and digits are worth their base-2
sum. -/
theorem parsedValueIsTheDigitSum : Obligations.ParsedValueIsTheDigitSum := by
  intro b t k hcheck hpos hkt hdigits hend
  have ht := checkFrame_lt hcheck
  have hdigit : ∀ (j : Nat) (h : j < k), isDigit b[j] = true := fun j h =>
    isDigit_iff.mpr (getD_toList b (j := j) (by omega) ▸ hdigits j h)
  have hstop : ∀ h : k < t, isDigit b[k] = false := fun h =>
    isDigit_eq_false_iff.mpr (getD_toList b (j := k) (by omega) ▸ hend.resolve_left (by omega))
  have hprefix := digitPrefix_tokenOf ht hkt hdigit hstop
  have hbound : digitsValue (digitPrefix (tokenOf t b)) ≤ 511 := Nat.le_of_lt_succ (windowValue_lt hcheck)
  rw [← digitsValue_tokenOf (by omega), ← hprefix, rawDecode_of_isDigit hcheck (hdigit 0 hpos)]
  exact ⟨hbound, classifyValue_value hbound t⟩

/-- Settles O20, from the ranges of the classification. -/
theorem widthAndSentinelDecideTheCategory : Obligations.WidthAndSentinelDecideTheCategory := by
  refine fun v t hv => ⟨fun h => classifyValue_bitWidth (by omega) t, fun h => ?cfg, fun h => ?sel⟩
  case cfg => rw [classifyValue_opcode (by omega) (by omega), if_neg (by omega)]
  case sel => rw [classifyValue_opcode (by omega) h.2, if_pos h.1]

/-! ## The bytes that do not matter (R85) -/

/-- The decoder result is a function of the terminator index and the token. -/
theorem rawDecode_congr {n t : Nat} {b b' : Frame} (h : checkFrame n b = .ok t)
    (h' : checkFrame n b' = .ok t) (htok : tokenOf t b = tokenOf t b') : rawDecode n b = rawDecode n b' := by
  rw [rawDecode, rawDecode, h, h']
  dsimp only
  rw [htok]

theorem tokenOf_congr {t : Nat} (ht : t < 10) {b b' : Frame}
    (h : ∀ (j : Nat) (hj : j < t), b[j] = b'[j]) : tokenOf t b = tokenOf t b' := by
  refine List.ext_getElem? fun i => ?_
  by_cases hi : i < t
  · rw [getElem?_tokenOf ht hi, getElem?_tokenOf ht hi, h i hi]
  · rw [List.getElem?_eq_none (by rw [tokenOf_length ht]; omega),
      List.getElem?_eq_none (by rw [tokenOf_length ht]; omega)]

/-- Settles O21: the terminator index and the token are the same, and the decoder looks at nothing else. -/
theorem bytesFromTheTerminatorOnAreIgnored : Obligations.BytesFromTheTerminatorOnAreIgnored := by
  intro k b b' t h h' hbytes
  have ht := checkFrame_lt h
  have hraw : rawDecode 10 b = rawDecode 10 b' :=
    rawDecode_congr h h' (tokenOf_congr ht fun j hj => hbytes j (by omega) hj)
  have hterm : acceptedTerminator 10 b = acceptedTerminator 10 b' := by
    rw [acceptedTerminator_eq_some.mpr h, acceptedTerminator_eq_some.mpr h']
  refine ⟨hraw, ?_, ?_⟩
  · rw [decode, decode, hraw]
  · rw [Machine.resultOf, Machine.resultOf, hraw, hterm]

/-! ## The corners of the token's length (R61, R95) -/

/-- A token is worth less than its length allows. -/
theorem digitsValue_digitPrefix_lt (tok : List Byte) : digitsValue (digitPrefix tok) < 2 ^ tok.length :=
  calc digitsValue (digitPrefix tok)
      < 2 ^ (digitPrefix tok).length := digitsValue_lt fun _ hd => digitPrefix_digits hd
    _ ≤ 2 ^ tok.length :=
      Nat.pow_le_pow_right (by decide) (List.takeWhile_sublist isDigit).length_le

/-- A frame whose digits are worth a value of the wrong width is rejected with that value. -/
theorem rawDecode_bitWidth {t : Nat} {b : Frame} (hcheck : checkFrame 10 b = .ok t)
    (hdigit : isDigit b[0] = true)
    (hbad : digitsValue (digitPrefix (tokenOf t b)) ≤ 0x7F ∨
      0x100 ≤ digitsValue (digitPrefix (tokenOf t b))) :
    ∃ v : Value, v.toNat = digitsValue (digitPrefix (tokenOf t b)) ∧
      rawDecode 10 b = .parseErr .bitWidth (some v) :=
  ⟨BitVec.ofNat 9 _, Nat.mod_eq_of_lt (windowValue_lt hcheck),
    by rw [rawDecode_of_isDigit hcheck hdigit, classifyValue_bitWidth hbad]⟩

/-- Nine digits of which the first is '1' spell a ninth bit. -/
theorem le_digitsValue_nine {b : Frame} (h0 : b[0] = 0x31)
    (hdigit : ∀ (j : Nat) (h : j < 9), isDigit b[j] = true) :
    256 ≤ digitsValue (digitPrefix (tokenOf 9 b)) := by
  obtain ⟨tok, htok⟩ := List.head?_eq_some_iff.mp (head?_tokenOf (t := 9) (by decide) b)
  have hlen : (b[0] :: tok).length = 8 + 1 := htok ▸ tokenOf_length (by decide) b
  rw [digitPrefix_tokenOf (by decide) le_rfl hdigit (fun h => absurd h (by decide)), htok, digitsValue_cons,
    Nat.succ.inj hlen, h0]
  exact Nat.le_add_right _ _

/-- A leading '0' is worth nothing. -/
theorem digitsValue_digitPrefix_zero_cons (tok : List Byte) :
    digitsValue (digitPrefix (0x30 :: tok)) = digitsValue (digitPrefix tok) := by
  have hcons : digitPrefix (0x30 :: tok) = 0x30 :: digitPrefix tok := List.takeWhile_cons_of_pos rfl
  rw [hcons, digitsValue_cons]
  simp

/-- A window that is another one shifted by a byte has the other's token behind its first byte. -/
theorem tokenOf_succ {t : Nat} (ht : t + 1 < 10) {b b' : Frame}
    (h : ∀ (j : Nat) (hj : j < t), b[j + 1] = b'[j]) : tokenOf (t + 1) b = b[0] :: tokenOf t b' := by
  obtain ⟨tok, htok⟩ := List.head?_eq_some_iff.mp (head?_tokenOf (Nat.succ_ne_zero t) b)
  have hlen : (b[0] :: tok).length = t + 1 := htok ▸ tokenOf_length ht b
  rw [htok]
  refine congrArg _ (List.ext_getElem? fun i => ?_)
  by_cases hi : i < t
  · rw [← List.getElem?_cons_succ (a := b[0]), ← htok, getElem?_tokenOf ht (by omega),
      getElem?_tokenOf (by omega) hi, h i hi]
  · rw [List.getElem?_eq_none (by rw [Nat.succ.inj hlen]; omega),
      List.getElem?_eq_none (by rw [tokenOf_length (by omega)]; omega)]

/-- Settles O22: the token's length bounds the digits' value, the first of nine digits is the ninth bit, and
a leading '0' leaves the value to the digits after it. -/
theorem tokenLengthCorners : Obligations.TokenLengthCorners := by
  refine ⟨fun b t hcheck ht h0 => ?short, fun b hcheck h0 hdigits => ?nine,
    fun b b' hcheck hcheck' h0 hdigits => ?leadingZero⟩
  case short =>
    have hlt : digitsValue (digitPrefix (tokenOf t b)) < 2 ^ 7 := by
      have hlen := digitsValue_digitPrefix_lt (tokenOf t b)
      rw [tokenOf_length (by omega)] at hlen
      exact hlen.trans_le (Nat.pow_le_pow_right (by decide) ht)
    obtain ⟨v, hv, hraw⟩ := rawDecode_bitWidth hcheck (isDigit_iff.mpr h0) (by omega)
    exact ⟨v, by omega, hraw⟩
  case nine =>
    have hle := le_digitsValue_nine h0 fun j hj => isDigit_iff.mpr (hdigits j hj)
    obtain ⟨v, hv, hraw⟩ := rawDecode_bitWidth hcheck (isDigit_iff.mpr (.inr h0)) (.inr hle)
    exact ⟨v, hv ▸ hle, hraw⟩
  case leadingZero =>
    have htok : tokenOf 9 b = 0x30 :: tokenOf 8 b' :=
      h0 ▸ tokenOf_succ (by decide) fun j hj => (hdigits j hj).2
    have hraw' := rawDecode_of_isDigit hcheck' (isDigit_iff.mpr (hdigits 0 (by decide)).1)
    have hraw := rawDecode_of_isDigit hcheck (isDigit_iff.mpr (.inl h0))
    rw [htok, digitsValue_digitPrefix_zero_cons] at hraw
    rw [hraw, hraw']
    generalize digitsValue (digitPrefix (tokenOf 8 b')) = v
    by_cases hbad : v ≤ 0x7F ∨ 0x100 ≤ v
    · rw [classifyValue_bitWidth hbad, classifyValue_bitWidth hbad]
    · rw [classifyValue_opcode (by omega) (by omega), classifyValue_opcode (by omega) (by omega)]
      by_cases hsel : 0xC0 ≤ v
      · rw [if_pos hsel, if_pos hsel]
      · rw [if_neg hsel, if_neg hsel]

end Sys2Proof
end

section
/-! PROOFS. The channel_select_mux: the lookup by bit fields, the lines of a Selection and the explicit rejection
of the codes it does not know (spec/41_channel_select_mux.md). -/

namespace Sys2Proof.Machine

/-! ## The lookup of an opcode (R101 to R105) -/

section
variable {k : Config} {op : Opcode} {t : Nat}

theorem channelMap_selRaw (h5 : op.getLsbD 5 = false) :
    channelMap k (.selRaw op t) = .select (if op.getLsbD 4 then .dfs else .ems) (op.setWidth 4).toFin := by
  rw [channelMap, h5]; rfl

theorem channelMap_selRaw_reserved (h5 : op.getLsbD 5 = true) :
    channelMap k (.selRaw op t) = .err .ueReservedGroup := by
  rw [channelMap, h5]; rfl

theorem channelMap_cfgRaw {act : CfgAction} (hact : k.action (op.setWidth 6) = some act) :
    channelMap k (.cfgRaw op t) = .config (op.setWidth 6) act := by
  rw [channelMap, hact]

theorem channelMap_cfgRaw_unknown (hact : k.action (op.setWidth 6) = none) :
    channelMap k (.cfgRaw op t) = .err .ueConfig := by
  rw [channelMap, hact]

end

/-! ## The lines of a Selection (R26, R106) -/

/-- The group index is the bit that tells DFS from EMS. -/
theorem groupIndex_eq_toNat {g : AntennaGroup} {b : Bool} (h : b = true ↔ g = .dfs) :
    groupIndex g = b.toNat := by
  obtain rfl : b = decide (g = .dfs) := Bool.eq_iff_iff.mpr (h.trans decide_eq_true_iff.symm)
  cases g <;> rfl

theorem groupIndex_le_one (g : AntennaGroup) : groupIndex g ≤ 1 := by cases g <;> decide

theorem groupIndex_inj : ∀ {g g' : AntennaGroup}, groupIndex g = groupIndex g' → g = g'
  | .ems, .ems, _ => rfl
  | .dfs, .dfs, _ => rfl

theorem rfLine_val (g : AntennaGroup) (idx : Fin 16) : (rfLine g idx).val = 16 * groupIndex g + idx.val := by
  cases g with
  | ems => exact (Nat.zero_add _).symm
  | dfs => rfl

theorem selLine_val (g : AntennaGroup) : (selLine g).val = 32 + groupIndex g := by cases g <;> rfl

/-- The RF line determines the group, its quotient by 16, and the chain index, the remainder. -/
theorem rfLine_inj {g g' : AntennaGroup} {idx idx' : Fin 16} (h : rfLine g idx = rfLine g' idx') :
    g = g' ∧ idx = idx' := by
  have hval : 16 * groupIndex g + idx.val = 16 * groupIndex g' + idx'.val := by
    rw [← rfLine_val, ← rfLine_val, h]
  exact ⟨groupIndex_inj (by omega), Fin.ext (by omega)⟩

/-- The low five bits of an opcode are the group bit above the chain index. -/
theorem toNat_setWidth_five (op : Opcode) :
    (op.setWidth 5).toNat = 16 * (op.getLsbD 4).toNat + (op.setWidth 4).toNat := by
  rw [BitVec.toNat_setWidth, BitVec.toNat_setWidth, Nat.mod_pow_succ, BitVec.getLsbD, Nat.toNat_testBit,
    Nat.add_comm]

/-- Settles O24: the line indices are linear in the group and chain index. -/
theorem rfLinesAreDistinct : Obligations.RfLinesAreDistinct := by
  refine ⟨fun _ _ _ _ => rfLine_inj, fun g idx => ⟨rfLine_val g idx, ?_⟩, selLine_val⟩
  have hg := groupIndex_le_one g
  rw [rfLine_val]
  omega

/-- Settles O23: a clause for each row of the lookup, and the lines of a Selection from its opcode's bits. -/
theorem channelMapLookup : Obligations.ChannelMapLookup := by
  intro k op t
  refine ⟨fun h5 h4 => ?ems, fun h5 h4 => ?dfs, channelMap_selRaw_reserved, fun _ => channelMap_cfgRaw,
    channelMap_cfgRaw_unknown, k.action_zero, rfl, rfl, fun _ => rfl, fun _ => rfl, fun _ g hg => ⟨?rf, ?sel⟩⟩
  case ems => rw [channelMap_selRaw h5, h4]; rfl
  case dfs => rw [channelMap_selRaw h5, h4]; rfl
  case rf =>
    rw [rfLine_val, groupIndex_eq_toNat hg, toNat_setWidth_five]
    rfl
  case sel =>
    rw [selLine_val, groupIndex_eq_toNat hg]
    cases op.getLsbD 4 <;> rfl

/-! ## The rejection of unknown codes (R104) -/

/-- The decode step of a frame whose result maps to an error: REJECTED with that error and the value kept,
no line written. -/
theorem step_decoding_rejects {s : State} {r : Raw} {e : ErrOutcome} (hpor : s.por = false)
    (hp : s.phase = .decoding) (hr : rawDecode s.fn.val s.fb = r) (hm : channelMap s.cfg r = .err e) :
    ∃ u, step s = .next u ∧ u.phase = .rejected ∧ u.lines = s.lines ∧ u.writes = s.writes ∧
      u.result.v = r.value ∧ u.result.mapped = .err e :=
  ⟨s.latch r, hr ▸ step_decoding_latch hp hpor, State.latch_phase_eq_rejected.mpr (hm ▸ rfl), s.latch_lines r,
    s.latch_writes r, rfl, hm⟩

/-- Settles O25: both kinds of code map to an error, the one bit 6 of the opcode says. -/
theorem unknownCodesAreRejectedExplicitly : Obligations.UnknownCodesAreRejectedExplicitly := by
  intro s op t hpor hp hcode
  have hclass := rawDecode_classified s.fn.val s.fb
  obtain ⟨hr, h5⟩ | ⟨hr, hact⟩ := hcode
  · obtain ⟨-, h6⟩ : op.getLsbD 7 = true ∧ op.getLsbD 6 = true := by rwa [hr] at hclass
    rw [h6]
    exact step_decoding_rejects hpor hp hr (channelMap_selRaw_reserved h5)
  · obtain ⟨-, h6⟩ : op.getLsbD 7 = true ∧ op.getLsbD 6 = false := by rwa [hr] at hclass
    rw [h6]
    exact step_decoding_rejects hpor hp hr (channelMap_cfgRaw_unknown hact)

end Sys2Proof.Machine
end

section
/-! PROOFS. The output_line_arbiter: its transitions, the cycle they compose to, exclusion of the lines and what
a command leaves unchanged (spec/42_output_line_arbiter.md). -/

namespace Sys2Proof.Machine

/-! ## Line writes (R117, R119) -/

theorem LineWrite.getLsbD_apply_set (k : Fin 34) (x : LineLevels) (j : Nat) :
    ((LineWrite.set k).apply x).getLsbD j = (x.getLsbD j || j == k.val) := by
  rw [LineWrite.apply_set, BitVec.getLsbD_or, ← BitVec.twoPow_eq, BitVec.getLsbD_twoPow,
    decide_eq_true k.isLt, Bool.true_and, ← beq_eq_decide, BEq.comm]

/-- Settles O56. -/
theorem lineWriteEffects : Obligations.LineWriteEffects :=
  ⟨fun _ _ => BitVec.getLsbD_zero, fun x k => LineWrite.getLsbD_apply_set k x, LineWrite.apply_idem⟩

/-- Settles O9: the lines of a Selection are linear in its group and chain index. -/
theorem writeSequences : Obligations.WriteSequences :=
  ⟨fun g idx => ⟨rfLine g idx, selLine g, rfl, rfLine_val g idx, selLine_val g⟩, fun _ => rfl, fun _ => rfl,
    fun _ => rfl⟩

@[simp] theorem applyWrites_nil (x : LineLevels) : applyWrites [] x = x := rfl

/-- What was on the lines before a CLEAR_ALL does not matter after it. -/
@[simp] theorem applyWrites_clearAll_cons (ws : List LineWrite) (x : LineLevels) :
    applyWrites (.clearAll :: ws) x = applyWrites ws 0 := rfl

/-! ## The diagnostic record (R121) -/

/-- Settles O12: each row of the table is the record of its result. -/
theorem diagnosticRecords : Obligations.DiagnosticRecords :=
  fun _ _ => ⟨fun _ _ => rfl, fun _ => rfl, fun _ => rfl, fun _ => rfl, fun _ => rfl, fun _ => rfl,
    rfl, rfl, rfl⟩

theorem diagOf_outcome (r : Result) : (diagOf r).outcome = outcomeCode r.mapped := by
  obtain ⟨m, t, v⟩ := r
  cases m with
  | select g idx => rfl
  | config sub act => rfl
  | err e => cases e <;> rfl

/-! ## The transitions in IDLE (R110, R111) -/

/-- Settles O4: the latch holds the read's count and buffer. -/
theorem acceptLatchesTheRead : Obligations.AcceptLatchesTheRead := by
  intro s n pad rest hpor hp hin
  refine ⟨readCount n s.residual, readBuffer (readCount n s.residual) pad s.residual, rfl,
    fun i h hi => ?received, ?latch⟩
  case received =>
    have hlen : i < s.residual.length := lt_of_lt_of_le hi (Nat.min_le_right _ _)
    rw [readBuffer_get _ _ _ i h, if_pos hi, List.getD_eq_getElem _ _ hlen, List.getElem?_eq_getElem hlen]
  case latch =>
    rw [step_idle hpor hp, State.idleMove, hin]
    rfl

/-- Settles O5. -/
theorem idleWaitsForARead : Obligations.IdleWaitsForARead := by
  refine ⟨fun s hpor hp hin => ?waits, fun s bs rest hpor hp hin => ?receives⟩
  all_goals rw [step_idle hpor hp, State.idleMove, hin]

/-! ## The transitions of a cycle (R112 to R115) -/

/-- Settles O6: in DECODING a step dispatches on the decoded frame, and with a latched result `exec` of its
command and the step are the same transition. -/
theorem stepRunsTheCommand : Obligations.StepRunsTheCommand := by
  have decoded : ∀ (s : State) (i : Instr), s.por = false → s.phase = .decoding →
      decode s.cfg s.fn.val s.fb = .instr i → step s = exec i s := fun s i hpor hp hd => by
    rw [step_decoding hpor hp, hd]
  refine ⟨decoded, fun s e hpor hp hd => ?rejected, fun s i hpor hp hc => ?latched,
    fun s i nbits w hd => decoded (s.withFetchWord nbits w) i rfl rfl hd⟩
  case rejected => rw [step_decoding hpor hp, hd]
  case latched => rw [step_latched hpor hp, exec_latched hp hc]

/-- Settles O7, by the latch of the decode step: the terminator index it keeps is that of the frame check. -/
theorem decodeLatchesTheMappedResult : Obligations.DecodeLatchesTheMappedResult :=
  fun s hpor hp => ⟨s.term, fun _ h => acceptedTerminator_eq_some.mpr h, step_decoding_latch hp hpor⟩

section
variable {s : State} {ws : List LineWrite} (hpor : s.por = false) (hp : s.phase = .resolved)
  (hws : writeSeq s.result.mapped = some ws)
include hpor hp hws

theorem step_write {w : LineWrite} (hw : ws[s.wseq.toNat]? = some w) : step s = .next (s.writeStep w) := by
  rw [step_resolved hpor hp, State.resolvedStep_write hws hw]

theorem step_complete (hlen : s.wseq.toNat = ws.length) : step s = .next s.completeResolved := by
  rw [step_resolved hpor hp, State.resolvedStep_complete hws hlen]

end

/-- Settles O8. -/
theorem writeStepPerformsTheNextWrite : Obligations.WriteStepPerformsTheNextWrite := by
  intro s ws w hpor hp hws hw
  rw [step_write hpor hp hws hw]
  cases w <;> rfl

/-- The Resolved completion with every field it changes written out (R114, R55). -/
theorem State.completeResolved_eq (s : State) :
    s.completeResolved = { s with
      diag := diagOf s.result
      drain := drainReq s.result
      wseq := 0
      phase := .idle
      residual := if drainReq s.result then [] else s.residual
      out := s.out ++ [.diag (diagOf s.result)] ++ (if drainReq s.result then [.drain] else []) } := by
  cases hd : drainReq s.result <;> simp [State.completeResolved, State.setDrain, State.emitDiag, hd]

/-- Settles O10: an accepted action drains by its terminator index alone. -/
theorem resolvedCompletion : Obligations.ResolvedCompletion := by
  intro s ws hpor hp hws hlen
  refine ⟨s.completeResolved.residual, fun ht => ?kept, ?step⟩
  case kept => simp [drainReq_of_writeSeq hws, ht]
  case step =>
    rw [step_complete hpor hp hws hlen, State.completeResolved_eq, drainReq_of_writeSeq hws]
    by_cases ht : s.result.t = some 8 <;> simp [ht]

/-- Settles O11. -/
theorem rejectedCompletion : Obligations.RejectedCompletion := by
  intro s hpor hp
  refine ⟨[], ?_⟩
  rw [step_rejected hpor hp, List.append_cons s.out]
  rfl

/-! ## The whole cycle (R123) -/

/-- What performing the writes `ws` leaves but for WSEQ, which counts them. -/
def State.afterWrites (ws : List LineWrite) (s : State) : State :=
  { s with lines := applyWrites ws s.lines, out := s.out ++ ws.map s.writeEvent }

@[simp] theorem State.afterWrites_nil (s : State) : s.afterWrites [] = s := by
  simp [State.afterWrites]

/-- A completion resets WSEQ, so a write step and the writes after it complete as all of them at once. -/
theorem State.writeStep_afterWrites_completeResolved (s : State) (w : LineWrite) (ws : List LineWrite) :
    ((s.writeStep w).afterWrites ws).completeResolved = (s.afterWrites (w :: ws)).completeResolved := by
  rw [State.afterWrites, State.afterWrites, List.map_cons, List.append_cons]
  rfl

/-- The run of a RESOLVED state: the writes still to do in order, then the completion. -/
theorem State.runs_resolved {s : State} {done todo : List LineWrite} (hpor : s.por = false)
    (hp : s.phase = .resolved) (hws : writeSeq s.result.mapped = some (done ++ todo))
    (hlen : s.wseq.toNat = done.length) :
    s.Runs (todo.length + 1) (s.afterWrites todo).completeResolved := by
  induction todo generalizing s done with
  | nil =>
    rw [s.afterWrites_nil]
    exact State.runs_one (step_complete hpor hp hws (by rw [hlen, List.append_nil]))
  | cons w todo ih =>
    have hw : (done ++ w :: todo)[s.wseq.toNat]? = some w := by simp [hlen]
    have hcount : (s.writeStep w).wseq.toNat = (done ++ [w]).length := by
      rw [(State.writeStep_wseq_toNat hws hw).1, hlen, List.length_append]
      rfl
    rw [← s.writeStep_afterWrites_completeResolved]
    exact State.runs_succ (step_write hpor hp hws hw) (ih hpor hp (by rwa [List.append_assoc]) hcount)

/-- With WSEQ 0 and a drain due the two completions leave the same state. -/
theorem State.completeRejected_eq_completeResolved {s : State} (hdrain : drainReq s.result = true)
    (hw : s.wseq = 0) : s.completeRejected = s.completeResolved := by
  rw [State.completeRejected, State.completeResolved, hdrain, ← hw]
  rfl

theorem State.afterCycle_eq (s : State) :
    s.afterCycle = ((s.latch (rawDecode s.fn.val s.fb)).afterWrites
      (cycleWrites (channelMap s.cfg (rawDecode s.fn.val s.fb)))).completeResolved := by
  rw [State.completeResolved_eq]
  rfl

theorem cycleWrites_of_writeSeq {m : Mapped} {ws : List LineWrite} (h : writeSeq m = some ws) :
    cycleWrites m = ws := by
  rw [cycleWrites, h]
  rfl

/-- After the decode step the writes and the completion run to the end of the cycle. -/
theorem State.runs_latch {s : State} (hpor : s.por = false) :
    (s.latch (rawDecode s.fn.val s.fb)).Runs
      ((cycleWrites (channelMap s.cfg (rawDecode s.fn.val s.fb))).length + 1) s.afterCycle := by
  rw [s.afterCycle_eq]
  cases hws : writeSeq (channelMap s.cfg (rawDecode s.fn.val s.fb)) with
  | none =>
    obtain ⟨e, he⟩ := writeSeq_eq_none_iff.mp hws
    have hrej : (s.latch (rawDecode s.fn.val s.fb)).phase = .rejected :=
      State.latch_phase_eq_rejected.mpr (he ▸ rfl)
    rw [he]
    change State.Runs _ 1 (State.afterWrites [] _).completeResolved
    rw [State.afterWrites_nil, ← State.completeRejected_eq_completeResolved (drainReq_err he) rfl]
    exact State.runs_one (step_rejected hpor hrej)
  | some ws =>
    have hres : (s.latch (rawDecode s.fn.val s.fb)).phase = .resolved :=
      State.latch_phase_eq_resolved.mpr <| by
        rw [← Bool.not_eq_true, Mapped.isErr_iff, ← writeSeq_eq_none_iff, hws]
        nofun
    rw [cycleWrites_of_writeSeq hws]
    exact State.runs_resolved (done := []) hpor hres hws rfl

/-- Settles O38: the decode step, then the run from the latched result. -/
theorem cycleEndState : Obligations.CycleEndState :=
  fun _ hpor hp => State.runs_succ (step_decoding_latch hp hpor) (State.runs_latch hpor)

theorem cycleSteps_le (m : Mapped) : cycleSteps m ≤ 5 := by
  cases hws : writeSeq m with
  | none => simp [cycleSteps, cycleWrites, hws]
  | some ws =>
    have hlen := writeSeq_length_le hws
    rw [cycleSteps, cycleWrites_of_writeSeq hws]
    omega

theorem two_le_cycleSteps (m : Mapped) : 2 ≤ cycleSteps m := Nat.le_add_left _ _

theorem State.afterCycle_lines (s : State) :
    s.afterCycle.lines = applyWrites (cycleWrites (channelMap s.cfg (rawDecode s.fn.val s.fb))) s.lines := rfl

theorem State.afterCycle_eq_cycle (s : State) :
    (s.afterCycle.lines, s.afterCycle.diag, s.afterCycle.drain) = cycle s.cfg s.lines s.fn.val s.fb := by
  rw [State.afterCycle, cycle]
  generalize resultOf s.cfg s.fn.val s.fb = r
  obtain ⟨m, t, v⟩ := r
  cases m with
  | select g idx => simp [cycleWrites, writeSeq, applyWrites, drainReq]
  | config sub act => cases act <;> rfl
  | err e => rfl

/-! ## Records (R116, R121) -/

section
variable (s : State)

@[simp] theorem State.latch_diagCount (r : Raw) : (s.latch r).diagCount = s.diagCount := rfl

@[simp] theorem State.idleMove_diagCount : s.idleMove.diagCount = s.diagCount := by
  rw [State.diagCount, s.idleMove_out, State.diagCount]

@[simp] theorem State.afterWrites_diagCount (ws : List LineWrite) :
    (s.afterWrites ws).diagCount = s.diagCount := by
  have hwrites : (ws.map s.writeEvent).countP OutEvent.isDiag = 0 := by
    simp [List.countP_eq_zero, State.writeEvent, OutEvent.isDiag]
  rw [State.diagCount, State.afterWrites, List.countP_append, hwrites, State.diagCount]
  rfl

@[simp] theorem State.writeStep_diagCount (w : LineWrite) : (s.writeStep w).diagCount = s.diagCount :=
  s.afterWrites_diagCount [w]

@[simp] theorem State.completeResolved_diagCount : s.completeResolved.diagCount = s.diagCount + 1 := by
  cases hd : drainReq s.result <;> simp [State.diagCount, OutEvent.isDiag, List.countP_cons, hd]

@[simp] theorem State.completeRejected_diagCount : s.completeRejected.diagCount = s.diagCount + 1 := by
  simp [State.diagCount, OutEvent.isDiag, List.countP_cons]

@[simp] theorem State.afterCycle_diagCount : s.afterCycle.diagCount = s.diagCount + 1 := by
  rw [s.afterCycle_eq, State.completeResolved_diagCount, State.afterWrites_diagCount, State.latch_diagCount]

end

/-- Settles O37: the accept, then the cycle of the read it latched. -/
theorem cycleIsTheComposition : Obligations.CycleIsTheComposition := by
  intro s n pad rest hpor hp hin
  obtain ⟨m, b, hm, hb, haccept⟩ := acceptLatchesTheRead s n pad rest hpor hp hin
  have hrun := State.runs_succ haccept (cycleEndState _ hpor rfl)
  have hle := cycleSteps_le (channelMap s.cfg (rawDecode m.val b))
  have hge := two_le_cycleSteps (channelMap s.cfg (rawDecode m.val b))
  exact ⟨_, _, hrun, Nat.succ_le_succ hge, Nat.succ_le_succ hle, rfl, rfl, hm, hb,
    State.afterCycle_eq_cycle _, State.afterCycle_diagCount _, rfl⟩

/-! ## Exclusion of the lines (R29, R124, R125) -/

/-- The accepted actions whose writes start with CLEAR_ALL: a Selection and a config command that clears. -/
def Mapped.Clears (m : Mapped) : Prop := (∃ g idx, m = .select g idx) ∨ (∃ sub, m = .config sub .clearAll)

theorem Mapped.Clears.exists_cycleWrites_eq {m : Mapped} (h : m.Clears) :
    ∃ ws, cycleWrites m = .clearAll :: ws := by
  obtain ⟨g, idx, rfl⟩ | ⟨sub, rfl⟩ := h <;> exact ⟨_, rfl⟩

/-- Every other result writes nothing. -/
theorem Mapped.clears_or_no_writes (m : Mapped) : m.Clears ∨ cycleWrites m = [] := by
  cases m with
  | select g idx => exact .inl (.inl ⟨g, idx, rfl⟩)
  | config sub act =>
    cases act with
    | clearAll => exact .inl (.inr ⟨sub, rfl⟩)
    | noWrite => exact .inr rfl
  | err e => exact .inr rfl

/-- The lines after a clearing action are the same from any lines before. -/
theorem Mapped.Clears.applyWrites_eq {m : Mapped} (h : m.Clears) (x y : LineLevels) :
    applyWrites (cycleWrites m) x = applyWrites (cycleWrites m) y := by
  obtain ⟨ws, hws⟩ := h.exists_cycleWrites_eq
  rw [hws, applyWrites_clearAll_cons, applyWrites_clearAll_cons]

/-- One RF line and its group's select line are exclusive. -/
theorem excl_select (g : AntennaGroup) (idx : Fin 16) :
    excl (applyWrites (cycleWrites (.select g idx)) 0) = true := by
  cases g <;> revert idx <;> decide

theorem Mapped.Clears.excl_applyWrites {m : Mapped} (h : m.Clears) (x : LineLevels) :
    excl (applyWrites (cycleWrites m) x) = true := by
  rw [h.applyWrites_eq x 0]
  obtain ⟨g, idx, rfl⟩ | ⟨sub, rfl⟩ := h
  · exact excl_select g idx
  · exact (by decide : excl 0 = true)

/-- All the writes of a cycle keep exclusion, whatever it holds in between (R47). -/
theorem excl_applyWrites_cycleWrites {x : LineLevels} (hx : excl x = true) (m : Mapped) :
    excl (applyWrites (cycleWrites m) x) = true := by
  obtain h | h := m.clears_or_no_writes
  · exact h.excl_applyWrites x
  · rwa [h]

/-- Outside a write sequence the exclusion invariant is exclusion itself. -/
theorem State.exclusive_of_not_resolved {s : State} (hinit : excl s.cfg.initLines = true)
    (hp : s.phase ≠ .resolved) (hlines : excl s.lines = true) : s.Exclusive where
  init := hinit
  outside := fun _ => hlines
  inside := fun h => absurd h hp

theorem State.idleMove_phase_ne_resolved {s : State} (hp : s.phase = .idle) :
    s.idleMove.phase ≠ .resolved := by
  rcases s.idleMove_cases with ⟨-, hm⟩ | ⟨bs, rest, -, hm⟩ | ⟨n, pad, rest, -, hm⟩ <;> simp [hm, hp]

/-- The latch starts a write sequence from exclusive lines, with none of its writes done. -/
theorem State.Exclusive.latch {s : State} (hs : s.Exclusive) (hp : s.phase ≠ .resolved) :
    (s.latch (rawDecode s.fn.val s.fb)).Exclusive where
  init := hs.init
  outside := fun _ => hs.outside hp
  inside := fun hres => by
    obtain ⟨ws, hws, hle⟩ := s.latch_sequenced.resolved hres
    exact ⟨s.lines, ws, hs.outside hp, hws, hle, rfl⟩

/-- A write step takes the progress one write on. -/
theorem State.Exclusive.writeStep {s : State} (hs : s.Exclusive) (hp : s.phase = .resolved)
    {ws : List LineWrite} {w : LineWrite} (hws : writeSeq s.result.mapped = some ws)
    (hw : ws[s.wseq.toNat]? = some w) : (s.writeStep w).Exclusive where
  init := hs.init
  outside := fun h => absurd hp h
  inside := fun _ => by
    obtain ⟨base, ws', hbase, hws', -, hlines⟩ := hs.inside hp
    obtain rfl : ws = ws' := Option.some.inj (hws.symm.trans hws')
    obtain ⟨hcount, hle⟩ := State.writeStep_wseq_toNat hws hw
    refine ⟨base, ws, hbase, hws, hcount ▸ hle, ?_⟩
    rw [hcount, List.take_add_one, hw, Option.toList_some, applyWrites_concat, ← hlines, s.writeStep_lines]

/-- With all its writes done a sequence has restored exclusion. -/
theorem State.Exclusive.excl_lines_of_done {s : State} (hs : s.Exclusive) (hp : s.phase = .resolved)
    {ws : List LineWrite} (hws : writeSeq s.result.mapped = some ws) (hlen : s.wseq.toNat = ws.length) :
    excl s.lines = true := by
  obtain ⟨base, ws', hbase, hws', -, hlines⟩ := hs.inside hp
  obtain rfl : ws = ws' := Option.some.inj (hws.symm.trans hws')
  rw [hlines, hlen, List.take_length, ← cycleWrites_of_writeSeq hws]
  exact excl_applyWrites_cycleWrites hbase _

/-- Settles O41: the latch opens a write sequence, a write step goes on with it, and everywhere else LINES are
exclusive, after the completion because the sequence restores exclusion. -/
theorem exclusionIsKept : Obligations.ExclusionIsKept := by
  intro s t hs h
  rcases step_transitions h with ⟨-, -, -, rfl⟩ | ⟨-, hp, rfl⟩ | ⟨-, hp, rfl⟩ |
    ⟨-, hp, ws, hws, ⟨w, hw, rfl⟩ | ⟨hlen, rfl⟩⟩ | ⟨-, hp, rfl⟩
  · exact State.exclusive_of_not_resolved hs.init nofun hs.init
  · exact State.exclusive_of_not_resolved (s.idleMove_cfg ▸ hs.init) (State.idleMove_phase_ne_resolved hp)
      (s.idleMove_lines ▸ hs.outside (by simp [hp]))
  · exact hs.latch (by simp [hp])
  · exact hs.writeStep hp hws hw
  · exact State.exclusive_of_not_resolved hs.init nofun (hs.excl_lines_of_done hp hws hlen)
  · exact State.exclusive_of_not_resolved hs.init nofun (hs.outside (by simp [hp]))

/-- The outcomes OK_SELECT and OK_CLEAR are those of the actions that clear. -/
theorem Mapped.clears_of_outcomeCode {m : Mapped} (h : outcomeCode m = 0x0 ∨ outcomeCode m = 0x1) :
    m.Clears := by
  cases m with
  | select g idx => exact .inl ⟨g, idx, rfl⟩
  | config sub act =>
    cases act with
    | clearAll => exact .inr ⟨sub, rfl⟩
    | noWrite => exact absurd h (by simp [outcomeCode])
  | err e => cases e <;> exact absurd h (by decide)

/-- Settles O42, from the lines at the end of the cycle. -/
theorem exclusionAtCycleEnds : Obligations.ExclusionAtCycleEnds := by
  intro s hpor hp
  refine ⟨_, s.afterCycle, cycleSteps_le _, cycleEndState s hpor hp, rfl,
    fun hx => excl_applyWrites_cycleWrites hx _, fun hout => Mapped.Clears.excl_applyWrites ?_ _⟩
  rw [State.afterCycle, diagOf_outcome] at hout
  exact Mapped.clears_of_outcomeCode hout

/-- Settles O43: the sequence clears all lines and sets two. -/
theorem selectionAssertsExactlyItsLines : Obligations.SelectionAssertsExactlyItsLines := by
  intro s g idx hpor hp hm
  have hrun := cycleEndState s hpor hp
  rw [hm] at hrun
  refine ⟨s.afterCycle, hrun, rfl, fun j _ => ?_⟩
  have hlines : s.afterCycle.lines =
      (LineWrite.set (selLine g)).apply ((LineWrite.set (rfLine g idx)).apply 0) := by
    rw [s.afterCycle_lines, hm]
    rfl
  rw [hlines, LineWrite.getLsbD_apply_set, LineWrite.getLsbD_apply_set, rfLine_val, selLine_val]
  simp

/-! ## Repeated and rejected commands (R120, R126) -/

theorem applyWrites_cycleWrites_idem (m : Mapped) (x : LineLevels) :
    applyWrites (cycleWrites m) (applyWrites (cycleWrites m) x) = applyWrites (cycleWrites m) x := by
  obtain h | h := m.clears_or_no_writes
  · exact h.applyWrites_eq _ _
  · rw [h, applyWrites_nil, applyWrites_nil]

/-- Settles O44: the writes of a cycle are idempotent, and those of a clearing action forget the lines they
start from. -/
theorem cyclesAreIdempotent : Obligations.CyclesAreIdempotent := by
  refine ⟨fun s hpor hp => ?again, fun s s' m hpor hpor' hp hp' hm hm' hclears => ?fromAny⟩
  case again =>
    exact ⟨s.afterCycle, (s.afterCycle.accept s.fn s.fb).afterCycle, cycleEndState s hpor hp, rfl,
      cycleEndState (s.afterCycle.accept s.fn s.fb) hpor rfl, rfl, applyWrites_cycleWrites_idem _ _, rfl, rfl⟩
  case fromAny =>
    have hrun := cycleEndState s hpor hp
    have hrun' := cycleEndState s' hpor' hp'
    rw [hm] at hrun
    rw [hm'] at hrun'
    refine ⟨_, _, hrun, hrun', rfl, rfl, ?_⟩
    rw [s.afterCycle_lines, s'.afterCycle_lines, hm, hm']
    exact Mapped.Clears.applyWrites_eq hclears _ _

/-- Settles O45: the latch goes to REJECTED and the completion follows it, neither of which writes a line. -/
theorem rejectedCycleWritesNoLine : Obligations.RejectedCycleWritesNoLine := by
  intro s e hpor hp hm
  have hlatch := step_decoding_latch hp hpor
  have hrej : (s.latch (rawDecode s.fn.val s.fb)).phase = .rejected :=
    State.latch_phase_eq_rejected.mpr (hm ▸ rfl)
  have hdone := step_rejected (s := s.latch _) hpor hrej
  refine ⟨_, _, State.runs_one hlatch, hrej, rfl, rfl, State.runs_succ hlatch (State.runs_one hdone), rfl, rfl,
    (s.latch _).completeRejected_writes, rfl, ?_⟩
  rw [State.completeRejected_diag, diagOf_outcome, State.latch_result, hm]
  rfl

/-! ## No step but a reset stops (R110, R129, R188) -/

/-- A step inside a cycle or in IDLE, with no reset pending, gives a next state or is the fault of a RESOLVED
state with no enabled transition. -/
theorem step_answers {s : State} (hpor : s.por = false) :
    (∃ t, step s = .next t) ∨ (s.phase = .resolved ∧ step s = .fault .noEnabledTransition) := by
  cases hp : s.phase with
  | idle => exact .inl ⟨_, step_idle hpor hp⟩
  | decoding => exact .inl ⟨_, step_decoding_latch hp hpor⟩
  | rejected => exact .inl ⟨_, step_rejected hpor hp⟩
  | resolved =>
    rw [step_resolved hpor hp]
    unfold State.resolvedStep
    split
    · exact .inr ⟨rfl, rfl⟩
    · split
      · exact .inl ⟨_, rfl⟩
      · split
        · exact .inl ⟨_, rfl⟩
        · exact .inr ⟨rfl, rfl⟩

theorem State.powerOnReset_ne_fault (s : State) (f : Fault) : s.powerOnReset ≠ .fault f := by
  unfold State.powerOnReset
  split
  · split <;> nofun
  all_goals nofun

/-- The sequencing invariant leaves a RESOLVED state its next write or its completion. -/
theorem State.Sequenced.step_enabled {s : State} (hs : s.Sequenced) (hpor : s.por = false) :
    ∃ t, step s = .next t := by
  obtain h | ⟨hp, -⟩ := step_answers hpor
  · exact h
  · obtain ⟨ws, hws, hle⟩ := hs.resolved hp
    obtain hlt | hlen := Nat.lt_or_eq_of_le hle
    · exact ⟨_, step_write hpor hp hws (List.getElem?_eq_getElem hlt)⟩
    · exact ⟨_, step_complete hpor hp hws hlen⟩

/-- Settles O39. -/
theorem everyCycleEnds : Obligations.EveryCycleEnds :=
  ⟨fun s hpor hp => ⟨_, s.afterCycle, cycleSteps_le _, cycleEndState s hpor hp, rfl⟩,
    fun _ hs hpor => hs.step_enabled hpor⟩

/-- Settles O54: a reset never faults, and without one the only stop is a RESOLVED state's fault. -/
theorem stepsNeverRefuseACommand : Obligations.StepsNeverRefuseACommand := by
  refine ⟨fun s r hpor h => ?refused, fun s f hs h => ?fault, fun s f h => ?phase⟩
  case refused =>
    obtain ⟨t, ht⟩ | ⟨-, ht⟩ := step_answers hpor <;> cases ht.symm.trans h
  all_goals
    have hpor : s.por = false := Bool.eq_false_iff.mpr fun hset =>
      s.powerOnReset_ne_fault f ((step_por hset).symm.trans h)
  case fault =>
    obtain ⟨t, ht⟩ := hs.step_enabled hpor
    cases ht.symm.trans h
  case phase =>
    obtain ⟨t, ht⟩ | ⟨hp, -⟩ := step_answers hpor
    · cases ht.symm.trans h
    · exact hp

/-! ## What a transition leaves unchanged (R116, R122, R128) -/

/-- The transitions of a step that starts inside a cycle. -/
theorem step_cycle_transitions {s t : State} (hp : s.phase ≠ .idle) (h : step s = .next t) :
    s.por = false ∧
      ((s.phase = .decoding ∧ t = s.latch (rawDecode s.fn.val s.fb)) ∨
       (s.phase = .resolved ∧ ∃ ws, writeSeq s.result.mapped = some ws ∧
         ((∃ w, ws[s.wseq.toNat]? = some w ∧ t = s.writeStep w) ∨
          (s.wseq.toNat = ws.length ∧ t = s.completeResolved))) ∨
       (s.phase = .rejected ∧ t = s.completeRejected)) := by
  rcases step_transitions h with ⟨-, hidle, -⟩ | ⟨-, hidle, -⟩ | ⟨hpor, h⟩ | ⟨hpor, h⟩ | ⟨hpor, h⟩
  · exact absurd hidle hp
  · exact absurd hidle hp
  · exact ⟨hpor, .inl h⟩
  · exact ⟨hpor, .inr (.inl h)⟩
  · exact ⟨hpor, .inr (.inr h)⟩

/-- Settles O46: no transition inside a cycle looks at the inputs. -/
theorem noFrameIsAcceptedDuringACycle : Obligations.NoFrameIsAcceptedDuringACycle := by
  intro s t hp h
  obtain ⟨hpor, ⟨hdec, rfl⟩ | ⟨hres, ws, hws, ⟨w, hw, rfl⟩ | ⟨hlen, rfl⟩⟩ | ⟨hrej, rfl⟩⟩ :=
    step_cycle_transitions hp h
  · exact ⟨rfl, rfl, rfl, .inl rfl, fun xs => step_decoding_latch (s := { s with inputs := xs }) hdec hpor⟩
  · exact ⟨rfl, rfl, rfl, .inl rfl, fun xs => step_write (s := { s with inputs := xs }) hpor hres hws hw⟩
  · refine ⟨rfl, rfl, rfl, ?_, fun xs => step_complete (s := { s with inputs := xs }) hpor hres hws hlen⟩
    cases hd : drainReq s.result <;> simp [hd]
  · exact ⟨rfl, rfl, rfl, .inr ⟨rfl, rfl⟩, fun xs => step_rejected (s := { s with inputs := xs }) hpor hrej⟩

theorem State.idleMove_diag (s : State) : s.idleMove.diag = s.diag := by
  rcases s.idleMove_cases with ⟨-, hm⟩ | ⟨bs, rest, -, hm⟩ | ⟨n, pad, rest, -, hm⟩ <;> rw [hm]

/-- Settles O50: the completions alone emit a record and end a cycle. -/
theorem oneRecordPerCycle : Obligations.OneRecordPerCycle := by
  intro s t hpor h
  by_cases hp : s.phase = .idle
  · rw [step_idle hpor hp] at h
    cases h
    exact ⟨by simp [hp], fun hne => absurd s.idleMove_diag hne⟩
  · obtain ⟨-, ⟨-, rfl⟩ | ⟨-, ws, -, ⟨w, -, rfl⟩ | ⟨-, rfl⟩⟩ | ⟨-, rfl⟩⟩ := step_cycle_transitions hp h
    · exact ⟨by simp [-State.latch_phase, s.latch_phase_ne_idle], fun hne => absurd rfl hne⟩
    · exact ⟨by simp [hp], fun hne => absurd rfl hne⟩
    · exact ⟨by simp [hp], fun _ => ⟨hp, rfl, rfl⟩⟩
    · exact ⟨by simp [hp], fun _ => ⟨hp, rfl, rfl⟩⟩

/-- Settles O52: a Resolved completion drains by the terminator index, a Rejected one always. -/
theorem drainDecision : Obligations.DrainDecision := by
  intro s t _ hp h ht
  obtain ⟨-, ⟨-, rfl⟩ | ⟨hres, ws, hws, ⟨w, -, rfl⟩ | ⟨-, rfl⟩⟩ | ⟨hrej, rfl⟩⟩ := step_cycle_transitions hp h
  · exact absurd ht (s.latch_phase_ne_idle _)
  · exact absurd ht hp
  · simp [drainReq_of_writeSeq hws, hres]
  · simp [hrej]

/-- Settles O55, by the transition the command takes. -/
theorem commandFrame : Obligations.CommandFrame := by
  intro i s t h
  obtain ⟨hp, ⟨m, v, ws, rfl, -⟩ | ⟨e, v, rfl⟩⟩ | ⟨-, -, hadv⟩ := exec_cases h
  · exact ⟨rfl, rfl, rfl, rfl, rfl, .inl ⟨hp, rfl, .inl rfl⟩⟩
  · exact ⟨rfl, rfl, rfl, rfl, rfl, .inl ⟨hp, rfl, .inr rfl⟩⟩
  obtain ⟨hp, hstep⟩ | ⟨hp, rfl⟩ := State.advance_cases hadv
  · obtain ⟨ws, -, ⟨w, -, rfl⟩ | ⟨-, rfl⟩⟩ := State.resolvedStep_cases hstep
    · exact ⟨rfl, rfl, rfl, rfl, rfl, .inr (.inl ⟨hp, hp, rfl⟩)⟩
    · exact ⟨rfl, rfl, rfl, rfl, rfl,
        .inr (.inr ⟨.inl hp, rfl, rfl, rfl, s.completeResolved_writes, fun hrej => by simp [hp] at hrej⟩)⟩
  · exact ⟨rfl, rfl, rfl, rfl, rfl,
      .inr (.inr ⟨.inr hp, rfl, rfl, rfl, s.completeRejected_writes, fun _ => rfl⟩)⟩

end Sys2Proof.Machine
end

section
/-! PROOFS. The Selection commands: what `exec` does with one in each state of its cycle, the result its frame
latches, and the rows of their table (spec/43_selection_ops.md). -/

namespace Sys2Proof.Machine

/-! ## A Selection in RESOLVED (R113, R114, R130) -/

theorem writeSeq_of_select {m : Mapped} {g : AntennaGroup} {idx : Fin 16} (hm : m = .select g idx) :
    writeSeq m = some [.clearAll, .set (rfLine g idx), .set (selLine g)] := by
  rw [hm, writeSeq]

section
variable {s : State} {g : AntennaGroup} {idx : Fin 16} (hp : s.phase = .resolved)
  (hm : s.result.mapped = .select g idx)
include hp hm

theorem exec_selInstr_resolved : exec (selInstr g idx) s = s.resolvedStep := by
  have hc : s.result.command = some (selInstr g idx) := by rw [Result.command, hm]
  rw [exec_latched (.inl hp) hc, State.advance, hp]

/-- After `n` writes a Selection performs the next one of CLEAR_ALL, SET(rf), SET(sel). -/
theorem exec_selInstr_write {n : BitVec 2} {w : LineWrite} (hn : s.wseq = n)
    (hw : [LineWrite.clearAll, .set (rfLine g idx), .set (selLine g)][n.toNat]? = some w) :
    exec (selInstr g idx) s = .next { s with
      lines := w.apply s.lines, wseq := n + 1, out := s.out ++ [s.writeEvent w] } := by
  subst hn
  rw [exec_selInstr_resolved hp hm, State.resolvedStep_write (writeSeq_of_select hm) hw]
  rfl

theorem exec_selInstr_complete (hw : s.wseq = 3) : exec (selInstr g idx) s = .next s.completeResolved := by
  rw [exec_selInstr_resolved hp hm, State.resolvedStep_complete (writeSeq_of_select hm) (by rw [hw]; rfl)]

end

/-- The record of a Selection (R121, R130). -/
theorem diagOf_select {r : Result} {g : AntennaGroup} {idx : Fin 16} {op : Value}
    (hm : r.mapped = .select g idx) (hv : r.v = some op) : diagOf r = selDiag op g (chainNumber idx) := by
  obtain ⟨m, t, v⟩ := r
  cases hm
  cases hv
  cases g <;> rfl

/-! ## The cycle of a frame that holds a Selection (R112, R123) -/

theorem exec_selInstr_decoding {s : State} (hp : s.phase = .decoding) (g : AntennaGroup) (idx : Fin 16) :
    exec (selInstr g idx) s = .next (s.enterResolved (.select g idx) (selInstr g idx).value) := by
  rw [exec_selInstr, State.runCommand_decoding hp]

/-- The latch of a frame that holds a Selection is that Selection's own, so RESULT is. -/
theorem resultOf_selInstr {s : State} {g : AntennaGroup} {idx : Fin 16} (hp : s.phase = .decoding)
    (hd : decode s.cfg s.fn.val s.fb = .instr (selInstr g idx)) :
    resultOf s.cfg s.fn.val s.fb =
      { mapped := .select g idx, t := s.term, v := some (selInstr g idx).value } := by
  have hlatch : s.latch (rawDecode s.fn.val s.fb) =
      s.enterResolved (.select g idx) (selInstr g idx).value :=
    Host.Outcome.next.inj ((exec_decoded hp hd).symm.trans (exec_selInstr_decoding hp g idx))
  rw [← s.latch_rawDecode_result, hlatch, State.enterResolved_result]

/-- The canonical frame of a Selection has its terminator after eight digits. -/
theorem acceptedTerminator_encode_selInstr (g : AntennaGroup) (idx : Fin 16) :
    acceptedTerminator 10 (encode (selInstr g idx)) = some 8 := by
  have h8 : (selInstr g idx).value.getLsbD 8 = false := by
    cases g <;> revert idx <;> decide
  obtain ⟨hcheck, -⟩ := Laws.FrameShape.frameOf_shape (selInstr g idx).value
  rw [h8] at hcheck
  exact acceptedTerminator_eq_some.mpr hcheck

/-- RESULT after the decode of a Selection's canonical frame. -/
theorem resultOf_encode_selInstr {s : State} {g : AntennaGroup} {idx : Fin 16}
    (hs : s.Latched (encode (selInstr g idx))) :
    resultOf s.cfg s.fn.val s.fb =
      { mapped := .select g idx, t := some 8, v := some (selInstr g idx).value } := by
  obtain ⟨hp, -, hfn, hfb⟩ := hs
  have hd : decode s.cfg s.fn.val s.fb = .instr (selInstr g idx) := by
    rw [hfn, hfb]
    exact decodeOfEncode _ _ (selInstr_wf _ g idx)
  have hterm : s.term = some 8 := by
    rw [State.term, hfn, hfb]
    exact acceptedTerminator_encode_selInstr g idx
  rw [resultOf_selInstr hp hd, hterm]

/-! ## The rows (R130 to R162) -/

/-- Every Selection meets its row: the row is the same for all of them in terms of group and chain index, with
RF line `16*g + (c-1)` and select line `32 + g` (R26, R130). -/
theorem selRow (g : AntennaGroup) (idx : Fin 16) :
    SelRow (selInstr g idx) g idx (chainNumber idx) (selInstr g idx).value (encode (selInstr g idx))
      (rfLine g idx) (selLine g) (1#34 <<< (rfLine g idx).val ||| 1#34 <<< (selLine g).val) where
  encodes := ⟨rfl, rfl, fun k => decodeOfEncode k _ (selInstr_wf k g idx)⟩
  sequence := rfl
  decodes := fun _ hp => exec_selInstr_decoding hp g idx
  clears := fun _ hp hm hw => exec_selInstr_write hp hm hw rfl
  asserts_rf := fun _ hp hm hw => exec_selInstr_write hp hm hw rfl
  asserts_sel := fun _ hp hm hw => exec_selInstr_write hp hm hw rfl
  completes := fun s hp hm hw hv => by
    have hdrain := drainReq_of_writeSeq (writeSeq_of_select hm)
    refine ⟨s.completeResolved.residual, fun ht => by simp [hdrain, ht], ?_⟩
    rw [exec_selInstr_complete hp hm hw, State.completeResolved_eq, diagOf_select hm hv, hdrain]
    by_cases ht : s.result.t = some 8 <;> simp [ht]
  whole_cycle := fun s hs => by
    have hres := resultOf_encode_selInstr hs
    have hmapped : channelMap s.cfg (rawDecode s.fn.val s.fb) = .select g idx := congrArg Result.mapped hres
    obtain ⟨hp, hpor, -⟩ := hs
    have hrun := cycleEndState s hpor hp
    rw [hmapped, State.afterCycle, hres, diagOf_select rfl rfl] at hrun
    simpa [cycleSteps, cycleWrites, writeSeq, applyWrites, drainReq, State.writeEvent] using hrun

/-- Settles O26: each command is the Selection of group EMS and its chain index, 0 to 7, and the row's columns
are that Selection's. -/
theorem selEms1To8 : Obligations.SelEms1To8 :=
  ⟨selRow .ems 0, selRow .ems 1, selRow .ems 2, selRow .ems 3,
    selRow .ems 4, selRow .ems 5, selRow .ems 6, selRow .ems 7⟩

/-- Settles O27: chain indices 8 to 15 of group EMS. -/
theorem selEms9To16 : Obligations.SelEms9To16 :=
  ⟨selRow .ems 8, selRow .ems 9, selRow .ems 10, selRow .ems 11,
    selRow .ems 12, selRow .ems 13, selRow .ems 14, selRow .ems 15⟩

/-- Settles O28: chain indices 0 to 7 of group DFS. -/
theorem selDfs1To8 : Obligations.SelDfs1To8 :=
  ⟨selRow .dfs 0, selRow .dfs 1, selRow .dfs 2, selRow .dfs 3,
    selRow .dfs 4, selRow .dfs 5, selRow .dfs 6, selRow .dfs 7⟩

/-- Settles O29: chain indices 8 to 15 of group DFS. -/
theorem selDfs9To16 : Obligations.SelDfs9To16 :=
  ⟨selRow .dfs 8, selRow .dfs 9, selRow .dfs 10, selRow .dfs 11,
    selRow .dfs 12, selRow .dfs 13, selRow .dfs 14, selRow .dfs 15⟩

end Sys2Proof.Machine
end

section
/-! PROOFS. SLEEP, the config commands and the rejected encodings: what `exec` does with each in the states of its
cycle, and the rows of their tables (spec/44_sleep_config_ops.md). -/

namespace Sys2Proof.Machine

/-! ## The value of an opcode with an operand (R65, R67) -/

/-- A row's fixed bits and its operand do not overlap, so adding them is joining them. -/
theorem add_setWidth_operand {w : Nat} (hw : w ≤ 9) {hi : Value} (hlow : hi.setWidth w = 0#w) (x : BitVec w) :
    hi + x.setWidth 9 = hi ||| x.setWidth 9 := by
  obtain ⟨hsum, -⟩ := or_setWidth_operand hw hlow x
  apply BitVec.eq_of_toNat_eq
  rw [BitVec.toNat_add, BitVec.toNat_setWidth_of_le hw, ← hsum, Nat.mod_eq_of_lt (BitVec.isLt _)]

/-! ## The recognised config commands (R170, R171) -/

/-- The command of a recognised sub-opcode: SLEEP for 0, CFG for the others (R65). -/
def configInstr (sub : SubOp) : Instr := if sub = 0 then .sleep else .cfg sub

theorem configInstr_of_ne_zero {sub : SubOp} (h : sub ≠ 0) : configInstr sub = .cfg sub := if_neg h

/-- In DECODING a recognised config command latches its action with its opcode (R170, R171). -/
theorem exec_configInstr_decoding {s : State} {sub : SubOp} {act : CfgAction} (hact : s.cfg.action sub = some act)
    (hp : s.phase = .decoding) :
    exec (configInstr sub) s = .next (s.enterResolved (.config sub act) (0x80 + sub.setWidth 9)) := by
  by_cases h0 : sub = 0
  · subst h0
    cases s.cfg.action_zero.symm.trans hact
    exact State.runCommand_decoding hp
  · rw [configInstr_of_ne_zero h0, exec, execCfg, State.runCommand_decoding hp, hact,
      add_setWidth_operand (by decide) rfl sub]

theorem writeSeq_config (sub : SubOp) (act : CfgAction) :
    writeSeq (.config sub act) = some (configWrites act) := by
  cases act <;> rfl

/-- The record of a recognised config command (R121). -/
theorem diagOf_config {r : Result} {sub : SubOp} {act : CfgAction} {v : Value} (hm : r.mapped = .config sub act)
    (hv : r.v = some v) : diagOf r = configDiag act v sub := by
  obtain ⟨m, t, u⟩ := r
  cases hm
  cases hv
  cases act <;> rfl

section
variable {s : State} {sub : SubOp} {act : CfgAction} (hm : s.result.mapped = .config sub act)
include hm

theorem exec_configInstr_resolved (hp : s.phase = .resolved) : exec (configInstr sub) s = s.resolvedStep := by
  have hc : s.result.command = some (configInstr sub) := by
    rw [Result.command, hm]
    rfl
  rw [exec_latched (.inl hp) hc, State.advance, hp]

/-- The completion of a recognised config command: the terminator index alone decides the drain (R114, R122). -/
theorem State.completeResolved_config {v : Value} (hv : s.result.v = some v) :
    ∃ kept : List Byte, (s.result.t = some 8 → kept = s.residual) ∧ s.completeResolved = { s with
      diag := configDiag act v sub
      drain := s.result.t != some 8
      residual := kept
      wseq := 0
      phase := .idle
      out := s.out ++ [.diag (configDiag act v sub)] ++ (if s.result.t = some 8 then [] else [.drain]) } := by
  have hdrain : drainReq s.result = (s.result.t != some 8) :=
    drainReq_of_writeSeq (hm ▸ writeSeq_config sub act)
  refine ⟨s.completeResolved.residual, fun ht => by simp [hdrain, ht], ?_⟩
  rw [State.completeResolved_eq, diagOf_config hm hv, hdrain]
  by_cases ht : s.result.t = some 8 <;> simp [ht]

end

/-- Every sub-opcode and action meet the config row: the cycle is the latch, the writes of the action in order
and the completion (R123). -/
theorem configRow (sub : SubOp) (act : CfgAction) :
    ConfigRow (configInstr sub) sub act (0x80 + sub.setWidth 9) where
  decodes := fun _ hact hp => exec_configInstr_decoding hact hp
  clears := by
    rintro rfl s hp hm hw
    have hws : writeSeq s.result.mapped = some [.clearAll] := hm ▸ writeSeq_config sub .clearAll
    rw [exec_configInstr_resolved hm hp, State.resolvedStep_write hws (by rw [hw]; rfl), State.writeStep, hw]
    rfl
  completes := by
    intro s hp hm hlen hv
    have hws : writeSeq s.result.mapped = some (configWrites act) := hm ▸ writeSeq_config sub act
    rw [exec_configInstr_resolved hm hp, State.resolvedStep_complete hws hlen]
    obtain ⟨kept, hkept, hdone⟩ := State.completeResolved_config hm hv
    exact ⟨kept, hkept, congrArg _ hdone⟩
  whole_cycle := by
    intro s hact hp hpor hd
    have hstep : step s = .next (s.enterResolved (.config sub act) (0x80 + sub.setWidth 9)) := by
      rw [step_decoding hpor hp, hd]
      exact exec_configInstr_decoding hact hp
    have hrun := State.runs_succ hstep
      (State.runs_resolved (done := []) (todo := configWrites act) hpor rfl (writeSeq_config sub act) rfl)
    obtain ⟨kept, hkept, hdone⟩ := State.completeResolved_config (sub := sub) (act := act)
      (s := (s.enterResolved (.config sub act) (0x80 + sub.setWidth 9)).afterWrites (configWrites act)) rfl rfl
    refine ⟨kept, hkept, ?_⟩
    rw [hdone] at hrun
    cases act <;> exact hrun

/-- Settles O30: SLEEP is the command of sub-opcode 0, whose action is ClearAll under all parameters. -/
theorem sleepClearsAllLines : Obligations.SleepClearsAllLines :=
  ⟨Config.action_zero, rfl, fun k => decodeOfEncode k .sleep rfl, configRow 0 .clearAll⟩

/-- Settles O31: CFG is the command of every other sub-opcode. -/
theorem recognisedConfigActs : Obligations.RecognisedConfigActs :=
  fun sub act h0 => configInstr_of_ne_zero h0 ▸ configRow sub act

/-! ## The rejected encodings (R172 to R176) -/

/-- The Rejected completion with every field it changes written out (R115, R55). -/
theorem State.completeRejected_eq (s : State) :
    s.completeRejected = { s with
      diag := diagOf s.result
      drain := true
      residual := []
      phase := .idle
      out := s.out ++ [.diag (diagOf s.result), .drain] } := by
  rw [List.append_cons s.out]
  rfl

/-- A command that takes error `e` with value `v`, and whose RESULT and record those two determine, meets the row
of the rejected encodings: its cycle is the latch and the completion (R186, R188). -/
theorem rejectRow {i : Instr} {e : ErrOutcome} {v : Value} {sub : SubOp}
    (hexec : ∀ s, exec i s = s.runCommand i (State.enterRejected e (some v)))
    (hcommand : ∀ t, Result.command { mapped := .err e, t := t, v := some v } = some i)
    (hdiag : ∀ t, diagOf { mapped := .err e, t := t, v := some v } = rejectDiag e v sub) :
    RejectRow i e v sub where
  enters := fun s hp => (hexec s).trans (State.runCommand_decoding hp)
  completes := by
    intro s hp hm hv
    have hres : s.result = { mapped := .err e, t := s.result.t, v := some v } := by rw [← hm, ← hv]
    have hc : s.result.command = some i := by rw [hres, hcommand]
    refine ⟨[], ?_⟩
    rw [exec_latched (.inr hp) hc, State.advance, hp, State.completeRejected_eq, hres, hdiag]
  whole_cycle := by
    intro s hp hpor hd
    have hstep : step s = .next (s.enterRejected e (some v)) := by
      rw [step_decoding hpor hp, hd]
      exact (hexec s).trans (State.runCommand_decoding hp)
    have hrun := State.runs_succ hstep (State.runs_one (step_rejected hpor rfl))
    rw [State.completeRejected_eq, State.enterRejected_result, hdiag] at hrun
    exact ⟨[], hrun⟩

/-- Settles O32: the opcode's low six bits give the sub-opcode back. -/
theorem unrecognisedConfigIsRejected : Obligations.UnrecognisedConfigIsRejected := by
  intro sub
  obtain ⟨-, hsub⟩ := or_setWidth_operand (hi := 0x80) (by decide) rfl sub
  rw [add_setWidth_operand (by decide) rfl sub]
  refine rejectRow (fun _ => rfl) (fun t => ?command) (fun t => ?record)
  case command => exact congrArg (some ∘ Instr.cfgUnknown) hsub
  case record => exact congrArg (Diag.mk 0xD 1 _ 0 0) hsub

/-- Bit 4 of a reserved group's opcode tells group 3 from group 2, and the low four bits are the chain field. -/
theorem command_reservedGroup {hi : Value} (hlow : hi.setWidth 4 = 0#4) (idx : BitVec 4) (t : Option Nat) :
    Result.command { mapped := .err .ueReservedGroup, t := t, v := some (hi ||| idx.setWidth 9) } =
      some (if hi.getLsbD 4 then .rsvGrp3 idx else .rsvGrp2 idx) := by
  obtain ⟨-, hidx⟩ := or_setWidth_operand (by decide) hlow idx
  have h4 : (hi ||| idx.setWidth 9).getLsbD 4 = hi.getLsbD 4 := by
    rw [BitVec.getLsbD_or, BitVec.getLsbD_setWidth, BitVec.getLsbD_of_ge idx 4 (by decide), Bool.and_false,
      Bool.or_false]
  simp only [Result.command, Result.value, Option.getD_some, h4, hidx]

/-- Settles O33: the opcode's fixed bits name the group. -/
theorem reservedGroupsAreRejected : Obligations.ReservedGroupsAreRejected := by
  intro idx
  rw [add_setWidth_operand (by decide) rfl idx, add_setWidth_operand (by decide) rfl idx]
  exact ⟨rejectRow (fun _ => rfl) (command_reservedGroup rfl idx) (fun _ => rfl),
    rejectRow (fun _ => rfl) (command_reservedGroup rfl idx) (fun _ => rfl)⟩

/-- A RESULT of PE_BIT_WIDTH with the value of NO_SENTINEL or OVER_WIDE belongs to that command (R67). -/
theorem command_bitWidth {v : Value} {i : Instr} (h : badValueOf v = i) (t : Option Nat) :
    Result.command { mapped := .err .peBitWidth, t := t, v := some v } = some i := congrArg some h

/-- Settles O34: the value's range tells the two commands apart, and its low bits are the operand. -/
theorem badWidthsAreRejected : Obligations.BadWidthsAreRejected := by
  refine ⟨fun v => ?noSentinel, fun v => ?overWide⟩
  case noSentinel =>
    obtain ⟨hv, hlow⟩ := Instr.value_noSentinel v
    have hbad := badValueOf_noSentinel (v := (Instr.noSentinel v).value) (by omega)
    rw [hlow] at hbad
    exact rejectRow (fun _ => rfl) (command_bitWidth hbad) (fun _ => rfl)
  case overWide =>
    obtain ⟨hv, hlow⟩ := Instr.value_overWide v
    have hbad := badValueOf_overWide (v := (Instr.overWide v).value) (by omega)
    rw [hlow] at hbad
    rw [add_setWidth_operand (by decide) rfl v]
    exact rejectRow (fun _ => rfl) (command_bitWidth hbad) (fun _ => rfl)

end Sys2Proof.Machine
end

section
/-! PROOFS. The error cycle of a frame that holds no command, and the outcome codes of the emitted records
(spec/60_exceptions.md). -/

namespace Sys2Proof.Machine

/-! ## The cycle of a frame that is no command (R182, R183, R186, R188) -/

/-- None of the three errors of a frame that is no command has a value to record. -/
theorem diagOf_errOfDecode (e : DecodeError) (t : Option Nat) :
    diagOf { mapped := .err (errOfDecode e), t := t, v := none } =
      { outcome := errCode (errOfDecode e), valueValid := 0, value := 0, group := 0, chain := 0, sub := 0 } := by
  cases e <;> rfl

/-- Settles O35: the decode step takes the error, and the next step is its completion. -/
theorem frameErrorCycle : Obligations.FrameErrorCycle := by
  intro s e hpor hp hd
  have hstep : step s = .next (s.enterRejected (errOfDecode e) none) := by
    rw [step_decoding hpor hp, hd]
  have hrun := State.runs_succ hstep (State.runs_one (step_rejected hpor rfl))
  rw [State.completeRejected_eq, State.enterRejected_result, diagOf_errOfDecode] at hrun
  exact hrun

/-! ## The outcome codes (R181) -/

theorem listedCode_outcomeCode (m : Mapped) : listedCode (outcomeCode m) = true := by
  cases m with
  | select g idx => rfl
  | config sub act => cases act <;> rfl
  | err e => cases e <;> rfl

theorem outcomeCode_bit_three (m : Mapped) : (outcomeCode m).getLsbD 3 = m.isErr := by
  cases m with
  | select g idx => exact (by decide : (0x0#4).getLsbD 3 = false)
  | config sub act =>
    cases act with
    | clearAll => exact (by decide : (0x1#4).getLsbD 3 = false)
    | noWrite => exact (by decide : (0x2#4).getLsbD 3 = false)
  | err e => cases e <;> rfl

/-- A transition whose every record was there before or is the record of RESULT keeps the codes listed. -/
theorem State.CodesListed.of_records {s t : State} (hs : s.CodesListed)
    (h : ∀ d, OutEvent.diag d ∈ t.out → OutEvent.diag d ∈ s.out ∨ d = diagOf s.result) : t.CodesListed := by
  intro d hd
  obtain hold | rfl := h d hd
  · exact hs d hold
  · rw [diagOf_outcome, listedCode_outcomeCode]

section
variable {s : State} {d : Diag}

theorem State.diag_mem_writeStep_out {w : LineWrite} :
    OutEvent.diag d ∈ (s.writeStep w).out ↔ OutEvent.diag d ∈ s.out := by
  simp

theorem State.diag_mem_completeResolved_out :
    OutEvent.diag d ∈ s.completeResolved.out ↔ OutEvent.diag d ∈ s.out ∨ d = diagOf s.result := by
  cases hd : drainReq s.result <;> simp [hd]

theorem State.diag_mem_completeRejected_out :
    OutEvent.diag d ∈ s.completeRejected.out ↔ OutEvent.diag d ∈ s.out ∨ d = diagOf s.result := by
  simp

end

/-- Settles O51: a completion emits the record of RESULT, a reset finds and leaves no record, and every other
transition emits none. -/
theorem outcomeCodesAreListed : Obligations.OutcomeCodesAreListed := by
  refine ⟨fun s t hs h => ?kept, fun r => ?bit⟩
  case bit => rw [diagOf_outcome, outcomeCode_bit_three, Mapped.isErr_iff]
  case kept =>
    rcases step_transitions h with ⟨-, -, -, rfl⟩ | ⟨-, -, rfl⟩ | ⟨-, -, rfl⟩ |
      ⟨-, -, ws, -, ⟨w, -, rfl⟩ | ⟨-, rfl⟩⟩ | ⟨-, -, rfl⟩
    · exact State.resetWith_codesListed s.cfg
    · exact hs.of_records fun _ hd => .inl (s.idleMove_out ▸ hd)
    · exact hs.of_records fun _ => .inl
    · exact hs.of_records fun _ hd => .inl (State.diag_mem_writeStep_out.mp hd)
    · exact hs.of_records fun _ => State.diag_mem_completeResolved_out.mp
    · exact hs.of_records fun _ => State.diag_mem_completeRejected_out.mp

end Sys2Proof.Machine
end

section
/-! PROOFS. Power-on reset before, inside and after a cycle, and the read that loses a split frame
(spec/70_reset_and_hazards.md). -/

namespace Sys2Proof.Machine

/-! ## The split frame (R219, R82) -/

theorem decode_short (k : Config) {n : Nat} (h : n < 10) (b : Frame) : decode k n b = .reject .shortOrEmpty := by
  rw [decode, rawDecode_short h]

/-- Settles O36: the read is accepted with fewer than ten bytes, and its cycle is that of a frame that holds no
command. -/
theorem splitFrameIsLost : Obligations.SplitFrameIsLost := by
  intro s n pad rest hpor hp hin hshort
  obtain ⟨m, b, hm, -, haccept⟩ := acceptLatchesTheRead s n pad rest hpor hp hin
  have hdecode : decode s.cfg m.val b = .reject .shortOrEmpty := decode_short s.cfg (hm ▸ hshort) b
  have hrun := State.runs_succ haccept (frameErrorCycle _ .shortOrEmpty hpor rfl hdecode)
  exact ⟨_, hrun, rfl, rfl, by simp [State.writes, OutEvent.write?], rfl, rfl, rfl, rfl, rfl⟩

/-! ## The reset values (R210, R35) -/

/-- Settles O1: the reset state holds the values of R35 under any parameters, and emits nothing. -/
theorem porTakesResetValues : Obligations.PorTakesResetValues :=
  ⟨fun _ hpor hp ho => ⟨_, step_por_idle hpor hp ho, rfl, rfl, rfl, rfl, rfl, rfl, rfl⟩,
    rfl, rfl, rfl, rfl, rfl, rfl⟩

/-! ## The refused resets (R212) -/

theorem step_por_insideCycle {s : State} (hpor : s.por = true) (hp : s.phase ≠ .idle) :
    step s = .refused .resetInsideCycle := by
  rw [step_por hpor, State.powerOnReset]
  cases hphase : s.phase with
  | idle => exact absurd hphase hp
  | decoding | resolved | rejected => rfl

theorem step_por_warm {s : State} (hpor : s.por = true) (hp : s.phase = .idle) (ho : s.out ≠ []) :
    step s = .refused .warmReset := by
  rw [step_por hpor, State.powerOnReset, hp]
  exact if_neg (mt s.noCycleRan_iff.mp ho)

/-- A cycle emits its record, so the record of the ports is not empty at its end (R116). -/
theorem State.afterCycle_out_ne_nil (s : State) : s.afterCycle.out ≠ [] := by
  intro hnil
  have hcount := s.afterCycle_diagCount
  rw [State.diagCount, hnil] at hcount
  exact Nat.succ_ne_zero _ hcount.symm

/-- Settles O2: a finished cycle has emitted its record, by which a reset after it is refused. -/
theorem porRefusedOnceACycleRuns : Obligations.PorRefusedOnceACycleRuns :=
  ⟨fun _ => step_por_insideCycle, fun _ => step_por_warm, fun s hpor hp =>
    ⟨_, cycleEndState s hpor hp, rfl, step_por_warm rfl rfl s.afterCycle_out_ne_nil⟩⟩

end Sys2Proof.Machine
end
